-- ==== Sys2Proof/Word.lean ====
section
/-! DEFINITION. The word types of the DCPU-16N (00_scope.md R5, R9): an octet is one memory cell, a word is
two octets. -/

namespace Sys2Proof

/-- One memory cell: 8 bits (R5, R9). -/
abbrev Octet := BitVec 8

/-- A word: 16 bits, the width of every register, virtual address, I/O address and message (R5). -/
abbrev Word := BitVec 16

/-- A physical address: 24 bits (R5, R50). -/
abbrev PhysAddr := BitVec 24

/-- A physical page number: 12 bits (R5, R28). -/
abbrev PageNo := BitVec 12

/-- A virtual block number: 4 bits (R5, R62). -/
abbrev BlockNo := BitVec 4

end Sys2Proof
end

