-- ==== Sys2Proof/Config.lean ====
section
/-! DEFINITION. What the platform fixes and the spec leaves open (00_scope.md R6): the kinds of physical
cells, the events the platform sees, the defaults of the parameters, and the free values. A free value is an
`opaque` constant: nothing in Lean can evaluate it, so a claim about it holds whatever it is. -/

namespace Sys2Proof

/-- What answers a physical address (PHYS_MAP, R6, R53, R55). -/
inductive CellKind where
  /-- A RAM octet: reads the last value written. -/
  | ram
  /-- A ROM octet: reads its fixed content; a write is ignored (93_implementation_defined.md U7). -/
  | rom
  /-- A memory-mapped device: the platform answers reads and receives writes (R61, U7). -/
  | device
  /-- Nothing: a read gives any value, a write is ignored (U7). -/
  | empty
  deriving DecidableEq, Repr

/-- One region of the physical address space: the addresses `base`, ..., `base + size - 1`. -/
structure Region where
  base : Nat
  size : Nat
  kind : CellKind
  deriving DecidableEq, Repr

/-- One transfer the platform sees: the trace of I/O and device accesses of 70_reset_and_hazards.md R357. -/
inductive BusEvent where
  /-- `IoRead(addr)` answered `value` (20_memory.md R68). -/
  | ioRead (addr value : Word)
  /-- `IoWrite(addr, value)` (20_memory.md R69). -/
  | ioWrite (addr value : Word)
  /-- A one-octet read of a device or empty physical address answered `value` (R53). -/
  | memRead (addr : PhysAddr) (value : Octet)
  /-- A one-octet write to a device (R55). -/
  | memWrite (addr : PhysAddr) (value : Octet)
  deriving DecidableEq, Repr

/-- FREE VALUE: what the I/O bus answers to a read at an I/O address, given everything the platform has seen so
far, newest first (IO_BUS, R68, U6; log 6). -/
opaque Config.ioAnswer : List BusEvent → Word → Word

/-- FREE VALUE: what a device or empty physical address answers to an octet read, given everything the platform
has seen so far (PHYS_MAP, R53, U7; log 5). -/
opaque Config.memAnswer : List BusEvent → PhysAddr → Octet

/-- FREE VALUE: what HCF stores in its operand, `none` when it stores nothing (44_special.md R234: "What is stored
in a, and whether anything is, is not defined"; log 8). -/
opaque Config.hcfPower : List BusEvent → Option Word

/-- FREE VALUE: EX after HCF (R234: "EX: not defined"; log 8). -/
opaque Config.hcfEx : List BusEvent → Word → Word

/-- FREE VALUE: the messages of the hardware interrupts that arrive between two steps, in the order the environment
chooses, given everything the platform has seen so far and the number of the moment (HwInterrupt, R302, U12; log 7). -/
opaque Config.hwMessages : List BusEvent → Nat → List Word

/-- The most messages the interrupt queue holds (R5, R34). -/
def Config.queueCapacity : Nat := 256

/-- The default of EMU_RESET: block i is page i (20_memory.md R66). -/
def Config.emuReset : Vector PageNo 16 := Vector.ofFn fun i => BitVec.ofNat 12 i.val

/-- The reset value of A..J and EX (RESET_GPR, 10_state.md R38: a parameter, 0 suggested).
DESIGN CHOICE, unsafe (log 2). -/
def Config.gprReset : Word := 0

end Sys2Proof
end

