-- ==== Sys2Proof/Syntax.lean ====
section
/-! DEFINITION. The syntax of the DCPU-16N: registers, operand codes and one constructor per row of
spec/opcode_table.json. An instruction here is what its FIRST word says (30_encoding.md R90, R108: the first word
alone fixes format, operands and length). The next words of its operands are read through PC while the operands
are handled (40_operands.md R120, R121). -/

namespace Sys2Proof

/-- The eight general registers, in the order of their numbers 0 to 7 (10_state.md R20). -/
inductive Reg where
  | a | b | c | x | y | z | i | j
  deriving DecidableEq, Repr

/-- An operand code ("value", 40_operands.md section 1). -/
inductive Operand where
  /-- 0x00-0x07, register (R123). -/
  | reg (r : Reg)
  /-- 0x08-0x0f, [register] (R124). -/
  | ind (r : Reg)
  /-- 0x10-0x17, [register + next word] (R125). -/
  | indNext (r : Reg)
  /-- 0x18, POP / [SP++] in a (R127), PUSH / [--SP] in b (R126). -/
  | stack
  /-- 0x19, [SP] / PEEK (R128). -/
  | peek
  /-- 0x1a, [SP + next word] / PICK n (R129). -/
  | pick
  /-- 0x1b, SP (R130). -/
  | sp
  /-- 0x1c, PC (R130). -/
  | pc
  /-- 0x1d, EX (R130). -/
  | ex
  /-- 0x1e, [next word] (R131). -/
  | absNext
  /-- 0x1f, next word as a literal (R132). -/
  | litNext
  /-- 0x20-0x3f, the inline literal whose code is 0x20 + k: value k - 1, that is -1..30 (R132). In a only. -/
  | inline (k : BitVec 5)
  deriving DecidableEq, Repr

/-- How many next words an operand code takes: `nw` of 30_encoding.md R95. -/
def Operand.nextWords : Operand → Nat
  | .indNext _ | .pick | .absNext | .litNext => 1
  | _ => 0

/-- The instructions: one constructor per row of the opcode table (30_encoding.md R96 to R98, R101). A BASIC
instruction has its operands b and a, a SPECIAL one its operand a, an IMPLIED one its flag v. -/
inductive Instr where
  /-- SET: b := a (R151). -/
  | set (b a : Operand)
  /-- ADD: b := b + a, carry in EX (R152). -/
  | add (b a : Operand)
  /-- SUB: b := b - a, borrow in EX (R153). -/
  | sub (b a : Operand)
  /-- MUL: b := b * a unsigned, high word in EX (R154). -/
  | mul (b a : Operand)
  /-- MLI: b := b * a signed, high word in EX (R155). -/
  | mli (b a : Operand)
  /-- DIV: b := b / a unsigned, fraction in EX (R156). -/
  | div (b a : Operand)
  /-- DVI: b := b / a signed, fraction in EX (R157). -/
  | dvi (b a : Operand)
  /-- MOD: b := b mod a unsigned (R158). -/
  | mod (b a : Operand)
  /-- MDI: b := b mod a signed (R159). -/
  | mdi (b a : Operand)
  /-- AND: bitwise and (R160). -/
  | and (b a : Operand)
  /-- BOR: bitwise or (R161). -/
  | bor (b a : Operand)
  /-- XOR: bitwise exclusive or (R162). -/
  | xor (b a : Operand)
  /-- SHR: logical shift right (R163). -/
  | shr (b a : Operand)
  /-- ASR: arithmetic shift right (R164). -/
  | asr (b a : Operand)
  /-- SHL: shift left (R165). -/
  | shl (b a : Operand)
  /-- IFB: perform next if (b & a) != 0 (R204). -/
  | ifb (b a : Operand)
  /-- IFC: perform next if (b & a) == 0 (R205). -/
  | ifc (b a : Operand)
  /-- IFE: perform next if b == a (R206). -/
  | ife (b a : Operand)
  /-- IFN: perform next if b != a (R207). -/
  | ifn (b a : Operand)
  /-- IFG: perform next if b > a (R208). -/
  | ifg (b a : Operand)
  /-- IFA: perform next if b > a signed (R209). -/
  | ifa (b a : Operand)
  /-- IFL: perform next if b < a (R210). -/
  | ifl (b a : Operand)
  /-- IFU: perform next if b < a signed (R211). -/
  | ifu (b a : Operand)
  /-- reserved.basic.0x18: blank opcode 0x18 of the BASIC format (R101). -/
  | reservedBasic18 (b a : Operand)
  /-- reserved.basic.0x19: blank opcode 0x19 of the BASIC format (R101). -/
  | reservedBasic19 (b a : Operand)
  /-- ADX: b := b + a + EX (R170). -/
  | adx (b a : Operand)
  /-- SBX: b := b - a + EX (R171). -/
  | sbx (b a : Operand)
  /-- HWW: write a to I/O address b (R221). -/
  | hww (b a : Operand)
  /-- HWR: read a from I/O address b (R222). -/
  | hwr (b a : Operand)
  /-- STI: b := a, then I and J up by 1 (R174). -/
  | sti (b a : Operand)
  /-- STD: b := a, then I and J down by 1 (R175). -/
  | std (b a : Operand)
  /-- JSR: push the next address, PC := a (R231). -/
  | jsr (a : Operand)
  /-- BSR: push the next address, PC := PC + a (R232). -/
  | bsr (a : Operand)
  /-- reserved.special.0x03: blank opcode 0x03 of the SPECIAL format (R101). -/
  | reservedSpecial03 (a : Operand)
  /-- reserved.special.0x04: blank opcode 0x04 of the SPECIAL format (R101). -/
  | reservedSpecial04 (a : Operand)
  /-- NEG: a := -a (R233). -/
  | neg (a : Operand)
  /-- reserved.special.0x06: blank opcode 0x06 of the SPECIAL format (R101). -/
  | reservedSpecial06 (a : Operand)
  /-- HCF: halt and catch fire (R234). -/
  | hcf (a : Operand)
  /-- INT: software interrupt with message a (R235). -/
  | int (a : Operand)
  /-- IAG: a := IA (R236). -/
  | iag (a : Operand)
  /-- IAS: IA := a (R237). -/
  | ias (a : Operand)
  /-- RFI: return from interrupt (R238). -/
  | rfi (a : Operand)
  /-- IAQ: interrupt queueing on if a is nonzero, off if zero (R239). -/
  | iaq (a : Operand)
  /-- reserved.special.0x0d: blank opcode 0x0d of the SPECIAL format (R101). -/
  | reservedSpecial0d (a : Operand)
  /-- MMW: EMU block a[3:0] := page a[15:4] (R244). -/
  | mmw (a : Operand)
  /-- MMR: a[15:4] := page of EMU block a[3:0] (R245). -/
  | mmr (a : Operand)
  /-- reserved.special.0x10: blank opcode 0x10 of the SPECIAL format (R101). -/
  | reservedSpecial10 (a : Operand)
  /-- reserved.special.0x11: blank opcode 0x11 of the SPECIAL format (R101). -/
  | reservedSpecial11 (a : Operand)
  /-- reserved.special.0x12: blank opcode 0x12 of the SPECIAL format (R101). -/
  | reservedSpecial12 (a : Operand)
  /-- reserved.special.0x13: blank opcode 0x13 of the SPECIAL format (R101). -/
  | reservedSpecial13 (a : Operand)
  /-- SXB: sign extend the low octet (R246). -/
  | sxb (a : Operand)
  /-- SWP: swap the octets (R247). -/
  | swp (a : Operand)
  /-- reserved.special.0x16: blank opcode 0x16 of the SPECIAL format (R101). -/
  | reservedSpecial16 (a : Operand)
  /-- reserved.special.0x17: blank opcode 0x17 of the SPECIAL format (R101). -/
  | reservedSpecial17 (a : Operand)
  /-- reserved.special.0x18: blank opcode 0x18 of the SPECIAL format (R101). -/
  | reservedSpecial18 (a : Operand)
  /-- reserved.special.0x19: blank opcode 0x19 of the SPECIAL format (R101). -/
  | reservedSpecial19 (a : Operand)
  /-- reserved.special.0x1a: blank opcode 0x1a of the SPECIAL format (R101). -/
  | reservedSpecial1a (a : Operand)
  /-- reserved.special.0x1b: blank opcode 0x1b of the SPECIAL format (R101). -/
  | reservedSpecial1b (a : Operand)
  /-- reserved.special.0x1c: blank opcode 0x1c of the SPECIAL format (R101). -/
  | reservedSpecial1c (a : Operand)
  /-- reserved.special.0x1d: blank opcode 0x1d of the SPECIAL format (R101). -/
  | reservedSpecial1d (a : Operand)
  /-- reserved.special.0x1e: blank opcode 0x1e of the SPECIAL format (R101). -/
  | reservedSpecial1e (a : Operand)
  /-- reserved.special.0x1f: blank opcode 0x1f of the SPECIAL format (R101). -/
  | reservedSpecial1f (a : Operand)
  /-- HLT: halt, or message 0 when interrupts are enabled (R271). -/
  | hlt (v : Bool)
  /-- SLP: sleep until an interrupt is triggered (R273). -/
  | slp (v : Bool)
  /-- reserved.implied.0x02: blank opcode 0x02 of the IMPLIED format (R101). -/
  | reservedImplied02 (v : Bool)
  /-- reserved.implied.0x03: blank opcode 0x03 of the IMPLIED format (R101). -/
  | reservedImplied03 (v : Bool)
  /-- BYT: mask one octet of the next output (R274). -/
  | byt (v : Bool)
  /-- reserved.implied.0x05: blank opcode 0x05 of the IMPLIED format (R101). -/
  | reservedImplied05 (v : Bool)
  /-- reserved.implied.0x06: blank opcode 0x06 of the IMPLIED format (R101). -/
  | reservedImplied06 (v : Bool)
  /-- reserved.implied.0x07: blank opcode 0x07 of the IMPLIED format (R101). -/
  | reservedImplied07 (v : Bool)
  /-- reserved.implied.0x08: blank opcode 0x08 of the IMPLIED format (R101). -/
  | reservedImplied08 (v : Bool)
  /-- reserved.implied.0x09: blank opcode 0x09 of the IMPLIED format (R101). -/
  | reservedImplied09 (v : Bool)
  /-- reserved.implied.0x0a: blank opcode 0x0a of the IMPLIED format (R101). -/
  | reservedImplied0a (v : Bool)
  /-- reserved.implied.0x0b: blank opcode 0x0b of the IMPLIED format (R101). -/
  | reservedImplied0b (v : Bool)
  /-- reserved.implied.0x0c: blank opcode 0x0c of the IMPLIED format (R101). -/
  | reservedImplied0c (v : Bool)
  /-- reserved.implied.0x0d: blank opcode 0x0d of the IMPLIED format (R101). -/
  | reservedImplied0d (v : Bool)
  /-- reserved.implied.0x0e: blank opcode 0x0e of the IMPLIED format (R101). -/
  | reservedImplied0e (v : Bool)
  /-- reserved.implied.0x0f: blank opcode 0x0f of the IMPLIED format (R101). -/
  | reservedImplied0f (v : Bool)
  /-- SKP: skip the next instruction (R278). -/
  | skp (v : Bool)
  /-- reserved.implied.0x11: blank opcode 0x11 of the IMPLIED format (R101). -/
  | reservedImplied11 (v : Bool)
  /-- reserved.implied.0x12: blank opcode 0x12 of the IMPLIED format (R101). -/
  | reservedImplied12 (v : Bool)
  /-- reserved.implied.0x13: blank opcode 0x13 of the IMPLIED format (R101). -/
  | reservedImplied13 (v : Bool)
  /-- reserved.implied.0x14: blank opcode 0x14 of the IMPLIED format (R101). -/
  | reservedImplied14 (v : Bool)
  /-- reserved.implied.0x15: blank opcode 0x15 of the IMPLIED format (R101). -/
  | reservedImplied15 (v : Bool)
  /-- reserved.implied.0x16: blank opcode 0x16 of the IMPLIED format (R101). -/
  | reservedImplied16 (v : Bool)
  /-- reserved.implied.0x17: blank opcode 0x17 of the IMPLIED format (R101). -/
  | reservedImplied17 (v : Bool)
  /-- reserved.implied.0x18: blank opcode 0x18 of the IMPLIED format (R101). -/
  | reservedImplied18 (v : Bool)
  /-- reserved.implied.0x19: blank opcode 0x19 of the IMPLIED format (R101). -/
  | reservedImplied19 (v : Bool)
  /-- reserved.implied.0x1a: blank opcode 0x1a of the IMPLIED format (R101). -/
  | reservedImplied1a (v : Bool)
  /-- reserved.implied.0x1b: blank opcode 0x1b of the IMPLIED format (R101). -/
  | reservedImplied1b (v : Bool)
  /-- reserved.implied.0x1c: blank opcode 0x1c of the IMPLIED format (R101). -/
  | reservedImplied1c (v : Bool)
  /-- reserved.implied.0x1d: blank opcode 0x1d of the IMPLIED format (R101). -/
  | reservedImplied1d (v : Bool)
  /-- reserved.implied.0x1e: blank opcode 0x1e of the IMPLIED format (R101). -/
  | reservedImplied1e (v : Bool)
  /-- reserved.implied.0x1f: blank opcode 0x1f of the IMPLIED format (R101). -/
  | reservedImplied1f (v : Bool)
  deriving DecidableEq, Repr

end Sys2Proof
end

