-- ==== Sys2Proof/WellFormed.lean ====
section
/-! DEFINITION. Well-formed instructions: the terms that an encoding exists for. The only thing the types do not
already say is that the 5 bit b field cannot hold an inline literal (40_operands.md R122, 30_encoding.md R100). -/

namespace Sys2Proof

/-- May the operand stand in the 5 bit b field? "Codes 0x20-0x3f cannot occur in b" (R122). -/
def Operand.wfB : Operand → Bool
  | .inline _ => false
  | _ => true

/-- An instruction is well-formed when its operand b, if it has one, fits the b field. -/
def Instr.wf : Instr → Bool
  | .set b _ | .add b _ | .sub b _ | .mul b _ | .mli b _ | .div b _ | .dvi b _ | .mod b _ | .mdi b _ | .and b _
  | .bor b _ | .xor b _ | .shr b _ | .asr b _ | .shl b _ | .ifb b _ | .ifc b _ | .ife b _ | .ifn b _ | .ifg b _
  | .ifa b _ | .ifl b _ | .ifu b _ | .reservedBasic18 b _ | .reservedBasic19 b _ | .adx b _ | .sbx b _
  | .hww b _ | .hwr b _ | .sti b _ | .std b _ => b.wfB
  | .jsr _ | .bsr _ | .reservedSpecial03 _ | .reservedSpecial04 _ | .neg _ | .reservedSpecial06 _ | .hcf _
  | .int _ | .iag _ | .ias _ | .rfi _ | .iaq _ | .reservedSpecial0d _ | .mmw _ | .mmr _ | .reservedSpecial10 _
  | .reservedSpecial11 _ | .reservedSpecial12 _ | .reservedSpecial13 _ | .sxb _ | .swp _ | .reservedSpecial16 _
  | .reservedSpecial17 _ | .reservedSpecial18 _ | .reservedSpecial19 _ | .reservedSpecial1a _
  | .reservedSpecial1b _ | .reservedSpecial1c _ | .reservedSpecial1d _ | .reservedSpecial1e _
  | .reservedSpecial1f _ => true
  | .hlt _ | .slp _ | .reservedImplied02 _ | .reservedImplied03 _ | .byt _ | .reservedImplied05 _
  | .reservedImplied06 _ | .reservedImplied07 _ | .reservedImplied08 _ | .reservedImplied09 _
  | .reservedImplied0a _ | .reservedImplied0b _ | .reservedImplied0c _ | .reservedImplied0d _
  | .reservedImplied0e _ | .reservedImplied0f _ | .skp _ | .reservedImplied11 _ | .reservedImplied12 _
  | .reservedImplied13 _ | .reservedImplied14 _ | .reservedImplied15 _ | .reservedImplied16 _
  | .reservedImplied17 _ | .reservedImplied18 _ | .reservedImplied19 _ | .reservedImplied1a _
  | .reservedImplied1b _ | .reservedImplied1c _ | .reservedImplied1d _ | .reservedImplied1e _
  | .reservedImplied1f _ => true

end Sys2Proof
end

