-- ==== Sys2Proof/Decode.lean ====
section
/-! DEFINITION. Decoding and encoding (30_encoding.md). `decode` is total on first words: the three formats
partition all 65536 of them (R94), and a blank opcode number decodes to its own reserved constructor.
`decodeOctets` is total on octet lists and rejects, by name, only a list too short to hold a first word. -/

namespace Sys2Proof

/-- The number of a general register (10_state.md R20). -/
def Reg.code : Reg → BitVec 3
  | .a => 0 | .b => 1 | .c => 2 | .x => 3 | .y => 4 | .z => 5 | .i => 6 | .j => 7

/-- The general register with a given number (10_state.md R20). -/
def regOfCode (c : BitVec 3) : Reg :=
  match c.toNat with
  | 0 => .a | 1 => .b | 2 => .c | 3 => .x | 4 => .y | 5 => .z | 6 => .i | _ => .j

/-- The 6 bit code of an operand (40_operands.md section 1). -/
def Operand.code : Operand → BitVec 6
  | .reg r => 0b000#3 ++ r.code
  | .ind r => 0b001#3 ++ r.code
  | .indNext r => 0b010#3 ++ r.code
  | .stack => 0x18
  | .peek => 0x19
  | .pick => 0x1a
  | .sp => 0x1b
  | .pc => 0x1c
  | .ex => 0x1d
  | .absNext => 0x1e
  | .litNext => 0x1f
  | .inline k => 1#1 ++ k

/-- The operand with a given 6 bit code (40_operands.md R121). -/
def operandOfCode (c : BitVec 6) : Operand :=
  match (c.extractLsb' 3 3).toNat with
  | 0 => .reg (regOfCode (c.extractLsb' 0 3))
  | 1 => .ind (regOfCode (c.extractLsb' 0 3))
  | 2 => .indNext (regOfCode (c.extractLsb' 0 3))
  | 3 =>
    match (c.extractLsb' 0 3).toNat with
    | 0 => .stack
    | 1 => .peek
    | 2 => .pick
    | 3 => .sp
    | 4 => .pc
    | 5 => .ex
    | 6 => .absNext
    | _ => .litNext
  | _ => .inline (c.extractLsb' 0 5)

/-- The opcode field of the BASIC format, `w[4:0]` (R92). -/
def basicField (w : Word) : BitVec 5 := w.extractLsb' 0 5

/-- Bits 9:5: operand b of the BASIC format (R92), the opcode of the SPECIAL format (R93). -/
def midField (w : Word) : BitVec 5 := w.extractLsb' 5 5

/-- Bits 15:10: operand a of the BASIC and SPECIAL formats (R92, R93). -/
def aField (w : Word) : BitVec 6 := w.extractLsb' 10 6

/-- Bits 14:10: the opcode of the IMPLIED format (R94). -/
def impliedField (w : Word) : BitVec 5 := w.extractLsb' 10 5

/-- Bit 15: the flag v of the IMPLIED format (R94). -/
def vField (w : Word) : Bool := w.getLsbD 15

/-- A BASIC instruction from its opcode 1..31 (R96); the last arm is opcode 0x1f, opcode 0 is not BASIC (R91). -/
def decodeBasic (o : BitVec 5) (b a : Operand) : Instr :=
  match o.toNat with
  | 0x01 => .set b a
  | 0x02 => .add b a
  | 0x03 => .sub b a
  | 0x04 => .mul b a
  | 0x05 => .mli b a
  | 0x06 => .div b a
  | 0x07 => .dvi b a
  | 0x08 => .mod b a
  | 0x09 => .mdi b a
  | 0x0a => .and b a
  | 0x0b => .bor b a
  | 0x0c => .xor b a
  | 0x0d => .shr b a
  | 0x0e => .asr b a
  | 0x0f => .shl b a
  | 0x10 => .ifb b a
  | 0x11 => .ifc b a
  | 0x12 => .ife b a
  | 0x13 => .ifn b a
  | 0x14 => .ifg b a
  | 0x15 => .ifa b a
  | 0x16 => .ifl b a
  | 0x17 => .ifu b a
  | 0x18 => .reservedBasic18 b a
  | 0x19 => .reservedBasic19 b a
  | 0x1a => .adx b a
  | 0x1b => .sbx b a
  | 0x1c => .hww b a
  | 0x1d => .hwr b a
  | 0x1e => .sti b a
  | _ => .std b a

/-- A SPECIAL instruction from its opcode 1..31 (R97); the last arm is opcode 0x1f, opcode 0 is not SPECIAL (R91). -/
def decodeSpecial (o : BitVec 5) (a : Operand) : Instr :=
  match o.toNat with
  | 0x01 => .jsr a
  | 0x02 => .bsr a
  | 0x03 => .reservedSpecial03 a
  | 0x04 => .reservedSpecial04 a
  | 0x05 => .neg a
  | 0x06 => .reservedSpecial06 a
  | 0x07 => .hcf a
  | 0x08 => .int a
  | 0x09 => .iag a
  | 0x0a => .ias a
  | 0x0b => .rfi a
  | 0x0c => .iaq a
  | 0x0d => .reservedSpecial0d a
  | 0x0e => .mmw a
  | 0x0f => .mmr a
  | 0x10 => .reservedSpecial10 a
  | 0x11 => .reservedSpecial11 a
  | 0x12 => .reservedSpecial12 a
  | 0x13 => .reservedSpecial13 a
  | 0x14 => .sxb a
  | 0x15 => .swp a
  | 0x16 => .reservedSpecial16 a
  | 0x17 => .reservedSpecial17 a
  | 0x18 => .reservedSpecial18 a
  | 0x19 => .reservedSpecial19 a
  | 0x1a => .reservedSpecial1a a
  | 0x1b => .reservedSpecial1b a
  | 0x1c => .reservedSpecial1c a
  | 0x1d => .reservedSpecial1d a
  | 0x1e => .reservedSpecial1e a
  | _ => .reservedSpecial1f a

/-- An IMPLIED instruction from its opcode 0..31 (R98); the last arm is opcode 0x1f. -/
def decodeImplied (o : BitVec 5) (v : Bool) : Instr :=
  match o.toNat with
  | 0x00 => .hlt v
  | 0x01 => .slp v
  | 0x02 => .reservedImplied02 v
  | 0x03 => .reservedImplied03 v
  | 0x04 => .byt v
  | 0x05 => .reservedImplied05 v
  | 0x06 => .reservedImplied06 v
  | 0x07 => .reservedImplied07 v
  | 0x08 => .reservedImplied08 v
  | 0x09 => .reservedImplied09 v
  | 0x0a => .reservedImplied0a v
  | 0x0b => .reservedImplied0b v
  | 0x0c => .reservedImplied0c v
  | 0x0d => .reservedImplied0d v
  | 0x0e => .reservedImplied0e v
  | 0x0f => .reservedImplied0f v
  | 0x10 => .skp v
  | 0x11 => .reservedImplied11 v
  | 0x12 => .reservedImplied12 v
  | 0x13 => .reservedImplied13 v
  | 0x14 => .reservedImplied14 v
  | 0x15 => .reservedImplied15 v
  | 0x16 => .reservedImplied16 v
  | 0x17 => .reservedImplied17 v
  | 0x18 => .reservedImplied18 v
  | 0x19 => .reservedImplied19 v
  | 0x1a => .reservedImplied1a v
  | 0x1b => .reservedImplied1b v
  | 0x1c => .reservedImplied1c v
  | 0x1d => .reservedImplied1d v
  | 0x1e => .reservedImplied1e v
  | _ => .reservedImplied1f v

/-- The instruction a first word stands for: the format selection of R91. -/
def decode (w : Word) : Instr :=
  if basicField w ≠ 0 then
    decodeBasic (basicField w) (operandOfCode ((midField w).setWidth 6)) (operandOfCode (aField w))
  else if midField w ≠ 0 then
    decodeSpecial (midField w) (operandOfCode (aField w))
  else
    decodeImplied (impliedField w) (vField w)

/-- Why a list of octets is not an instruction. -/
inductive DecodeError where
  /-- Fewer than two octets: there is no first word. Raised by `decodeOctets`; safe. -/
  | truncated
  deriving DecidableEq, Repr

/-- Decode a list of octets in memory order: the first word is little endian (20_memory.md R52). The rest holds the
next words of the operands, if any, and what follows. -/
def decodeOctets : List Octet → Except DecodeError (Instr × List Octet)
  | lo :: hi :: rest => .ok (decode (hi ++ lo), rest)
  | _ => .error .truncated

/-- `nw` of R95 on a raw operand code: 1 for the codes 0x10-0x17, 0x1a, 0x1e, 0x1f, else 0. -/
def codeNextWords (c : BitVec 6) : Nat :=
  if (0x10 ≤ c.toNat ∧ c.toNat ≤ 0x17) ∨ c = 0x1a ∨ c = 0x1e ∨ c = 0x1f then 1 else 0

/-- The length in words of the instruction with a given first word (R95); it holds for reserved encodings too. -/
def wordLength (w : Word) : Nat :=
  if basicField w ≠ 0 then 1 + codeNextWords (aField w) + codeNextWords ((midField w).setWidth 6)
  else if midField w ≠ 0 then 1 + codeNextWords (aField w)
  else 1

/-- Is the first word that of a conditional instruction: BASIC with opcode 0x10..0x17 (42_conditionals.md R201)? -/
def isConditionalWord (w : Word) : Bool :=
  decide (0x10 ≤ (basicField w).toNat ∧ (basicField w).toNat ≤ 0x17)

/-- The first word of a BASIC instruction, `a*1024 + b*32 + o` (R92). -/
def basicWord (o : BitVec 5) (b a : Operand) : Word := a.code ++ b.code.setWidth 5 ++ o

/-- The first word of a SPECIAL instruction, `a*1024 + o*32` (R93). -/
def specialWord (o : BitVec 5) (a : Operand) : Word := a.code ++ o ++ 0#5

/-- The first word of an IMPLIED instruction, `v*32768 + o*1024` (R94). -/
def impliedWord (o : BitVec 5) (v : Bool) : Word := BitVec.ofBool v ++ o ++ 0#10

/-- The first word of an instruction (R96 to R98). It is the encoding of every well-formed instruction. -/
def encode : Instr → Word
  | .set b a => basicWord 0x01 b a
  | .add b a => basicWord 0x02 b a
  | .sub b a => basicWord 0x03 b a
  | .mul b a => basicWord 0x04 b a
  | .mli b a => basicWord 0x05 b a
  | .div b a => basicWord 0x06 b a
  | .dvi b a => basicWord 0x07 b a
  | .mod b a => basicWord 0x08 b a
  | .mdi b a => basicWord 0x09 b a
  | .and b a => basicWord 0x0a b a
  | .bor b a => basicWord 0x0b b a
  | .xor b a => basicWord 0x0c b a
  | .shr b a => basicWord 0x0d b a
  | .asr b a => basicWord 0x0e b a
  | .shl b a => basicWord 0x0f b a
  | .ifb b a => basicWord 0x10 b a
  | .ifc b a => basicWord 0x11 b a
  | .ife b a => basicWord 0x12 b a
  | .ifn b a => basicWord 0x13 b a
  | .ifg b a => basicWord 0x14 b a
  | .ifa b a => basicWord 0x15 b a
  | .ifl b a => basicWord 0x16 b a
  | .ifu b a => basicWord 0x17 b a
  | .reservedBasic18 b a => basicWord 0x18 b a
  | .reservedBasic19 b a => basicWord 0x19 b a
  | .adx b a => basicWord 0x1a b a
  | .sbx b a => basicWord 0x1b b a
  | .hww b a => basicWord 0x1c b a
  | .hwr b a => basicWord 0x1d b a
  | .sti b a => basicWord 0x1e b a
  | .std b a => basicWord 0x1f b a
  | .jsr a => specialWord 0x01 a
  | .bsr a => specialWord 0x02 a
  | .reservedSpecial03 a => specialWord 0x03 a
  | .reservedSpecial04 a => specialWord 0x04 a
  | .neg a => specialWord 0x05 a
  | .reservedSpecial06 a => specialWord 0x06 a
  | .hcf a => specialWord 0x07 a
  | .int a => specialWord 0x08 a
  | .iag a => specialWord 0x09 a
  | .ias a => specialWord 0x0a a
  | .rfi a => specialWord 0x0b a
  | .iaq a => specialWord 0x0c a
  | .reservedSpecial0d a => specialWord 0x0d a
  | .mmw a => specialWord 0x0e a
  | .mmr a => specialWord 0x0f a
  | .reservedSpecial10 a => specialWord 0x10 a
  | .reservedSpecial11 a => specialWord 0x11 a
  | .reservedSpecial12 a => specialWord 0x12 a
  | .reservedSpecial13 a => specialWord 0x13 a
  | .sxb a => specialWord 0x14 a
  | .swp a => specialWord 0x15 a
  | .reservedSpecial16 a => specialWord 0x16 a
  | .reservedSpecial17 a => specialWord 0x17 a
  | .reservedSpecial18 a => specialWord 0x18 a
  | .reservedSpecial19 a => specialWord 0x19 a
  | .reservedSpecial1a a => specialWord 0x1a a
  | .reservedSpecial1b a => specialWord 0x1b a
  | .reservedSpecial1c a => specialWord 0x1c a
  | .reservedSpecial1d a => specialWord 0x1d a
  | .reservedSpecial1e a => specialWord 0x1e a
  | .reservedSpecial1f a => specialWord 0x1f a
  | .hlt v => impliedWord 0x00 v
  | .slp v => impliedWord 0x01 v
  | .reservedImplied02 v => impliedWord 0x02 v
  | .reservedImplied03 v => impliedWord 0x03 v
  | .byt v => impliedWord 0x04 v
  | .reservedImplied05 v => impliedWord 0x05 v
  | .reservedImplied06 v => impliedWord 0x06 v
  | .reservedImplied07 v => impliedWord 0x07 v
  | .reservedImplied08 v => impliedWord 0x08 v
  | .reservedImplied09 v => impliedWord 0x09 v
  | .reservedImplied0a v => impliedWord 0x0a v
  | .reservedImplied0b v => impliedWord 0x0b v
  | .reservedImplied0c v => impliedWord 0x0c v
  | .reservedImplied0d v => impliedWord 0x0d v
  | .reservedImplied0e v => impliedWord 0x0e v
  | .reservedImplied0f v => impliedWord 0x0f v
  | .skp v => impliedWord 0x10 v
  | .reservedImplied11 v => impliedWord 0x11 v
  | .reservedImplied12 v => impliedWord 0x12 v
  | .reservedImplied13 v => impliedWord 0x13 v
  | .reservedImplied14 v => impliedWord 0x14 v
  | .reservedImplied15 v => impliedWord 0x15 v
  | .reservedImplied16 v => impliedWord 0x16 v
  | .reservedImplied17 v => impliedWord 0x17 v
  | .reservedImplied18 v => impliedWord 0x18 v
  | .reservedImplied19 v => impliedWord 0x19 v
  | .reservedImplied1a v => impliedWord 0x1a v
  | .reservedImplied1b v => impliedWord 0x1b v
  | .reservedImplied1c v => impliedWord 0x1c v
  | .reservedImplied1d v => impliedWord 0x1d v
  | .reservedImplied1e v => impliedWord 0x1e v
  | .reservedImplied1f v => impliedWord 0x1f v

/-- The length of an instruction in words, from its operands (R95). -/
def Instr.length : Instr → Nat
  | .set b a | .add b a | .sub b a | .mul b a | .mli b a | .div b a | .dvi b a | .mod b a | .mdi b a | .and b a
  | .bor b a | .xor b a | .shr b a | .asr b a | .shl b a | .ifb b a | .ifc b a | .ife b a | .ifn b a | .ifg b a
  | .ifa b a | .ifl b a | .ifu b a | .reservedBasic18 b a | .reservedBasic19 b a | .adx b a | .sbx b a
  | .hww b a | .hwr b a | .sti b a | .std b a =>
    1 + a.nextWords + b.nextWords
  | .jsr a | .bsr a | .reservedSpecial03 a | .reservedSpecial04 a | .neg a | .reservedSpecial06 a | .hcf a
  | .int a | .iag a | .ias a | .rfi a | .iaq a | .reservedSpecial0d a | .mmw a | .mmr a | .reservedSpecial10 a
  | .reservedSpecial11 a | .reservedSpecial12 a | .reservedSpecial13 a | .sxb a | .swp a | .reservedSpecial16 a
  | .reservedSpecial17 a | .reservedSpecial18 a | .reservedSpecial19 a | .reservedSpecial1a a
  | .reservedSpecial1b a | .reservedSpecial1c a | .reservedSpecial1d a | .reservedSpecial1e a
  | .reservedSpecial1f a => 1 + a.nextWords
  | .hlt _ | .slp _ | .reservedImplied02 _ | .reservedImplied03 _ | .byt _ | .reservedImplied05 _
  | .reservedImplied06 _ | .reservedImplied07 _ | .reservedImplied08 _ | .reservedImplied09 _
  | .reservedImplied0a _ | .reservedImplied0b _ | .reservedImplied0c _ | .reservedImplied0d _
  | .reservedImplied0e _ | .reservedImplied0f _ | .skp _ | .reservedImplied11 _ | .reservedImplied12 _
  | .reservedImplied13 _ | .reservedImplied14 _ | .reservedImplied15 _ | .reservedImplied16 _
  | .reservedImplied17 _ | .reservedImplied18 _ | .reservedImplied19 _ | .reservedImplied1a _
  | .reservedImplied1b _ | .reservedImplied1c _ | .reservedImplied1d _ | .reservedImplied1e _
  | .reservedImplied1f _ => 1

/-- The octets of a word in memory order, low octet first (20_memory.md R52). -/
def wordOctets (w : Word) : List Octet := [w.extractLsb' 0 8, w.extractLsb' 8 8]

/-- The octets of an instruction in memory: its first word, then its next words, operand a's first (R99), here taken
from a list that is cut to the instruction's length. -/
def encodeOctets (i : Instr) (nexts : List Word) : List Octet :=
  (encode i :: nexts.take (i.length - 1)).flatMap wordOctets

/-- Octet `k` of a number, octet 0 the least significant. -/
def octetOfNat (w k : Nat) : Octet := BitVec.ofNat 8 (w >>> (8 * k))

/-- The instruction the decoder reads from an opcode-table word of `nbits` bits: the word's octets lie in memory order
from bit 0 up, and every bit above `nbits`, up to the longest instruction (three words, R90), is 0. -/
def decodeTableWord (nbits w : Nat) : Option Instr :=
  match decodeOctets ((List.range 6).map fun k => octetOfNat (w % 2 ^ nbits) k) with
  | .ok (i, _) => some i
  | .error _ => none

end Sys2Proof
end

