-- ==== Sys2Proof/Machine/State.lean ====
section
/-! DEFINITION. The state of the machine, its memory's canonical form, the reasons a step can stop, and reset
(10_state.md). State is plain data. -/

namespace Sys2Proof.Machine

/-- The eight general registers (R20). -/
structure Gpr where
  a : Word
  b : Word
  c : Word
  x : Word
  y : Word
  z : Word
  i : Word
  j : Word
  deriving DecidableEq, Repr

/-- Byte masking, "of which byte" (R33). -/
inductive ByteMask where
  /-- Writes are full 16 bit. -/
  | none
  /-- Set by `BYT 1`: the destination's high octet keeps its old value. -/
  | keepHigh
  /-- Set by `BYT 0`: the destination's low octet keeps its old value. -/
  | keepLow
  deriving DecidableEq, Repr

/-- The model faults of the spec: `ReservedOpcode(w)` is the only one (60_exceptions.md R300). -/
inductive ModelFault where
  | reservedOpcode (w : Word)
  deriving DecidableEq, Repr

/-- The run state (R35). -/
inductive RunState where
  /-- Instructions are executed. -/
  | running
  /-- Entered by SLP; left only by an interrupt trigger with IA != 0. -/
  | sleeping
  /-- Entered by HLT when interrupts are not enabled; nothing leaves it. -/
  | halted
  /-- Entered by HCF and by queue overflow; terminal. -/
  | onFire
  /-- Behaviour the source does not define; terminal. -/
  | faulted (reason : ModelFault)
  deriving DecidableEq, Repr

/-- Physical memory: the RAM and ROM octets by physical address, in the canonical form of `Memory.wf`. -/
abbrev Memory := List Host.Cell

/-- What an unlisted octet of physical memory reads as. DESIGN CHOICE, unsafe (log 1). -/
def unlistedOctet : Octet := 0

/-- The canonical form: addresses strictly rising and inside the 24 bit space, no entry equal to what an unlisted
octet reads as. -/
def Memory.wf : Memory → Bool
  | [] => true
  | (k, v) :: rest =>
    decide (k < 2 ^ 24) && v != unlistedOctet && rest.all (fun c => decide (k < c.1)) && Memory.wf rest

/-- The state of one DCPU-16N (10_state.md, opening tuple), with physical memory, and with the platform's parameters
that the spec leaves open held as plain data (R37). -/
structure State where
  /-- A, B, C, X, Y, Z, I, J (R20). -/
  gpr : Gpr
  /-- Program counter: a virtual octet address (R22). -/
  pc : Word
  /-- Stack pointer: a virtual octet address (R24). -/
  sp : Word
  /-- Extra/excess, the only flag-like register (R25). -/
  ex : Word
  /-- Interrupt address (R27). -/
  ia : Word
  /-- Instructions are read and not performed (R31). -/
  skipping : Bool
  /-- Interrupts stay in the queue (R32). -/
  queueing : Bool
  /-- The pending byte mask (R33). -/
  mask : ByteMask
  /-- The interrupt queue, head first (R34). -/
  queue : List Word
  /-- The EMU block registers (R28). -/
  emu : Vector PageNo 16
  /-- The run state (R35). -/
  run : RunState
  /-- Physical memory (20_memory.md R50). -/
  mem : Memory
  /-- The MODEL's own field: the parameter PHYS_MAP, first matching region wins, RAM where none matches. No step
  changes it (93_implementation_defined.md U9; log 4). -/
  physMap : List Region
  /-- The MODEL's own field: the trace of I/O and device accesses, newest first (70_reset_and_hazards.md R357). -/
  bus : List BusEvent
  /-- The MODEL's own field: the environment action HwInterrupt (60_exceptions.md R302), as far as this state fixes it:
  the messages that arrive before each of the coming steps, the next step's first. What arrives before the steps after
  those is the free value `Config.hwMessages`, so that hardware interrupts never cease by construction (log 7). -/
  arrivals : List (List Word)
  /-- The MODEL's own field: how many moments between steps have taken their messages from `Config.hwMessages`, the
  number of the next one (R302; log 7). -/
  moment : Nat
  deriving DecidableEq, Repr

/-- Why the machine stops: no step exists from a terminal run state (70_reset_and_hazards.md R354). -/
inductive Fault where
  /-- Raised by `step` in `Halted`, the normal end of a run (R357). Safe: the machine makes no further step. -/
  | halted
  /-- Raised by `step` in `OnFire` (60_exceptions.md R304). Safe: nothing follows. -/
  | onFire
  /-- Raised by `step` in `Faulted(reason)` (30_encoding.md R101). Safe: nothing follows. -/
  | faulted (reason : ModelFault)
  deriving DecidableEq, Repr

/-- Why an instruction has no meaning. -/
inductive Refusal where
  /-- Raised by `exec` for an instruction whose meaning is not written yet (there is none). Safe: the machine stops. -/
  | notModelled (mnemonic : String)
  deriving DecidableEq, Repr

/-- All general registers at one value. -/
def Gpr.fill (v : Word) : Gpr := ⟨v, v, v, v, v, v, v, v⟩

/-- The machine right after reset, for every choice of the parameters RESET_GPR (`gpr`, `ex`), EMU_RESET (`emu`),
PHYS_MAP (`physMap` and the memory's contents `mem`) and HwInterrupt (`arrivals`, and free values after them)
(10_state.md R38, 00_scope.md R6). -/
def State.resetWith (gpr : Gpr) (ex : Word) (emu : Vector PageNo 16) (physMap : List Region) (mem : Memory)
    (arrivals : List (List Word)) : State where
  gpr := gpr
  pc := 0
  sp := 0
  ex := ex
  ia := 0
  skipping := false
  queueing := false
  mask := .none
  queue := []
  emu := emu
  run := .running
  mem := mem
  physMap := physMap
  bus := []
  arrivals := arrivals
  moment := 0

/-- The machine right after reset (R38, R350), with the parameters at their defaults: A..J and EX zero (log 2), the
EMU sequential (R66), all physical memory RAM with nothing listed (logs 1, 4). No message arrives before the first step,
since hardware interrupts arrive "between two CPU steps" (R302); what arrives before every later step is free. DESIGN CHOICE,
unsafe (log 7). -/
def State.reset : State :=
  State.resetWith (Gpr.fill Config.gprReset) Config.gprReset Config.emuReset [] [] [[]]

end Sys2Proof.Machine
end

