-- ==== Sys2Proof/Machine/Ops.lean ====
section
/-! DEFINITION. The named operations over registers, memory, the buses and the interrupt queue: the primitives of
00_scope.md R10, the EMU (20_memory.md), the interrupt mechanism (60_exceptions.md) and the parts of the step
algorithm (70_reset_and_hazards.md R354). An operation that answers a value and may be seen by the platform
answers a pair: the value and the state after it. -/

namespace Sys2Proof.Machine

/-! ## Octets of a word (R10) -/

/-- `lo8(v)`: bits 7:0. -/
def lo8 (v : Word) : Octet := v.extractLsb' 0 8

/-- `hi8(v)`: bits 15:8. -/
def hi8 (v : Word) : Octet := v.extractLsb' 8 8

/-- `hi : lo`, the word of two octets. -/
def joinOctets (hi lo : Octet) : Word := hi ++ lo

/-- `sext_8(v)`: v if v < 0x80 else v + 0xff00. -/
def sext8 (v : Octet) : Word := v.signExtend 16

/-! ## Registers -/

/-- `x[r]` (10_state.md R20). -/
def Gpr.get (g : Gpr) : Reg → Word
  | .a => g.a | .b => g.b | .c => g.c | .x => g.x | .y => g.y | .z => g.z | .i => g.i | .j => g.j

/-- `x[r] <- v` (R20). -/
def Gpr.set (g : Gpr) (r : Reg) (v : Word) : Gpr :=
  match r with
  | .a => { g with a := v }
  | .b => { g with b := v }
  | .c => { g with c := v }
  | .x => { g with x := v }
  | .y => { g with y := v }
  | .z => { g with z := v }
  | .i => { g with i := v }
  | .j => { g with j := v }

def State.setGpr (s : State) (g : Gpr) : State := { s with gpr := g }
def State.setPc (s : State) (v : Word) : State := { s with pc := v }
def State.setSp (s : State) (v : Word) : State := { s with sp := v }
def State.setEx (s : State) (v : Word) : State := { s with ex := v }
def State.setIa (s : State) (v : Word) : State := { s with ia := v }
def State.setSkipping (s : State) (v : Bool) : State := { s with skipping := v }
def State.setQueueing (s : State) (v : Bool) : State := { s with queueing := v }
def State.setMask (s : State) (v : ByteMask) : State := { s with mask := v }
def State.setQueue (s : State) (v : List Word) : State := { s with queue := v }
def State.setEmu (s : State) (v : Vector PageNo 16) : State := { s with emu := v }
def State.setRun (s : State) (v : RunState) : State := { s with run := v }
def State.setMem (s : State) (v : Memory) : State := { s with mem := v }
def State.setBus (s : State) (v : List BusEvent) : State := { s with bus := v }
def State.setArrivals (s : State) (v : List (List Word)) : State := { s with arrivals := v }
def State.setMoment (s : State) (v : Nat) : State := { s with moment := v }

/-- Read a general register. -/
def State.reg (s : State) (r : Reg) : Word := s.gpr.get r

/-- Write a general register. -/
def State.setReg (s : State) (r : Reg) (v : Word) : State := s.setGpr (s.gpr.set r v)

/-! ## The EMU (20_memory.md section 6) -/

/-- `emu[s]` (10_state.md R28). -/
def emuPage (e : Vector PageNo 16) (b : BlockNo) : PageNo := e[b.toNat]'b.isLt

/-- `emu[s] <- p` (R28). -/
def emuMap (e : Vector PageNo 16) (b : BlockNo) (p : PageNo) : Vector PageNo 16 := e.set b.toNat p b.isLt

/-- The block number of a virtual address: `va[15:12]` (R62). -/
def blockOf (va : Word) : BlockNo := va.extractLsb' 12 4

/-- `Translate(va)`: the page of va's block, then `va[11:0]` (R62). -/
def translate (e : Vector PageNo 16) (va : Word) : PhysAddr := emuPage e (blockOf va) ++ va.extractLsb' 0 12

/-! ## Physical memory -/

/-- The octet at a physical address of RAM or ROM. -/
def Memory.read : Memory → Nat → Octet
  | [], _ => unlistedOctet
  | (k, v) :: rest, a => if a = k then v else Memory.read rest a

/-- Forget the entry of a physical address: it reads as an unlisted octet. -/
def Memory.erase (m : Memory) (a : Nat) : Memory := m.filter fun c => c.1 != a

/-- List a physical address that is not listed, before the first greater one. -/
def Memory.insert : Memory → Nat → Octet → Memory
  | [], a, v => [(a, v)]
  | c :: rest, a, v => if a < c.1 then (a, v) :: c :: rest else c :: Memory.insert rest a v

/-- Give the octet at a physical address a value, keeping the canonical form: a value that an unlisted octet reads as is
not listed. -/
def Memory.write (m : Memory) (a : Nat) (v : Octet) : Memory :=
  if v = unlistedOctet then m.erase a else (m.erase a).insert a v

/-- What answers a physical address: the first region that holds it, RAM where none does (PHYS_MAP; log 4). -/
def kindAt (m : List Region) (pa : PhysAddr) : CellKind :=
  match m.find? fun r => decide (r.base ≤ pa.toNat ∧ pa.toNat < r.base + r.size) with
  | some r => r.kind
  | none => .ram

/-- `MemRead(addr, 1)` (R53). RAM and ROM answer their octet and nothing else happens; a device or an empty address
answers a free value, and the platform has seen the read (U7; log 5). -/
def readOctet (va : Word) (s : State) : Octet × State :=
  let pa := translate s.emu va
  match kindAt s.physMap pa with
  | .ram | .rom => (s.mem.read pa.toNat, s)
  | .device | .empty =>
    let v := Config.memAnswer s.bus pa
    (v, s.setBus (.memRead pa v :: s.bus))

/-- `MemWrite(addr, 1, v)` (R55). RAM takes the value; ROM and empty addresses ignore it; a device sees it (U7; log 5). -/
def writeOctet (va : Word) (v : Octet) (s : State) : State :=
  let pa := translate s.emu va
  match kindAt s.physMap pa with
  | .ram => s.setMem (s.mem.write pa.toNat v)
  | .device => s.setBus (.memWrite pa v :: s.bus)
  | .rom | .empty => s

/-- `MemRead(addr, 2)`: low octet first, each octet translated on its own (R54, R61). -/
def readWord (va : Word) (s : State) : Word × State :=
  let lo := readOctet va s
  let hi := readOctet (va + 1#16) lo.2
  (joinOctets hi.1 lo.1, hi.2)

/-- `MemWrite(addr, 2, v)`: low octet first (R56, R61). -/
def writeWord (va : Word) (v : Word) (s : State) : State :=
  writeOctet (va + 1#16) (hi8 v) (writeOctet va (lo8 v) s)

/-- `Fetch16()`: the word at PC, then PC up by two (R57). -/
def fetch16 (s : State) : Word × State :=
  let w := readWord s.pc s
  (w.1, w.2.setPc (w.2.pc + 2#16))

/-- `Push(v)` (40_operands.md R137). -/
def push (v : Word) (s : State) : State :=
  let s1 := s.setSp (s.sp - 2#16)
  writeWord s1.sp v s1

/-- `Pop()` (40_operands.md R138). -/
def pop (s : State) : Word × State :=
  let w := readWord s.sp s
  (w.1, w.2.setSp (w.2.sp + 2#16))

/-! ## The I/O bus (20_memory.md section 8) -/

/-- `IoRead(addr)`: the platform answers (R68); a free value (log 6). -/
def ioRead (addr : Word) (s : State) : Word × State :=
  let v := Config.ioAnswer s.bus addr
  (v, s.setBus (.ioRead addr v :: s.bus))

/-- `IoWrite(addr, v)`: the platform sees it, the CPU's state does not change (R69). -/
def ioWrite (addr v : Word) (s : State) : State := s.setBus (.ioWrite addr v :: s.bus)

/-! ## Interrupts (60_exceptions.md) -/

/-- `Enqueue(msg)`: at the tail, or on fire when 256 messages are already held (R303, R304). -/
def enqueue (msg : Word) (s : State) : State :=
  if s.queue.length < Config.queueCapacity then s.setQueue (s.queue ++ [msg]) else s.setRun .onFire

/-- "Interrupts are enabled": IA != 0 (45_implied.md R272, the parameter INT_ENABLED_DEF; log 13). -/
def interruptsEnabled (s : State) : Bool := s.ia != 0#16

/-- Interrupt entry: a trigger with IA != 0 (R307). -/
def enterInterrupt (msg : Word) (s : State) : State :=
  let s1 := s.setQueueing true
  let s2 := push s1.pc s1
  let s3 := push (s2.reg .a) s2
  ((s3.setPc s3.ia).setReg .a msg).setRun .running

/-- Return from interrupt: queueing off, A popped, then PC (R311, 44_special.md R238). -/
def returnFromInterrupt (s : State) : State :=
  let a := pop (s.setQueueing false)
  let pc := pop (a.2.setReg .a a.1)
  pc.2.setPc pc.1

/-- May a message be triggered at this boundary (R305)? The queue's being nonempty is seen in `boundary`. -/
def mayTrigger (s : State) : Bool :=
  (s.run == .running || s.run == .sleeping) && !s.queueing && !s.skipping && s.mask == .none

/-- Trigger a message that has left the queue: enter the handler, or discard it when IA = 0 (R306, R307). -/
def trigger (msg : Word) (s : State) : State :=
  if s.ia = 0#16 then s else enterInterrupt msg s

/-- The instruction boundary: exactly one message, the head, is triggered when the conditions hold (R305, R354 (1)). -/
def boundary (s : State) : State :=
  match s.queue with
  | [] => s
  | msg :: rest => if mayTrigger s then trigger msg (s.setQueue rest) else s

/-- The messages that arrive before this step, in the order the environment chooses (R302), and the state in which that
moment is over: those the state fixes, or else a free value, with no bound on how many or when (log 7). -/
def arriving (s : State) : List Word × State :=
  match s.arrivals with
  | [] => (Config.hwMessages s.bus s.moment, s.setMoment (s.moment + 1))
  | now :: later => (now, s.setArrivals later)

/-- The environment action HwInterrupt for the messages that arrive before this step, in their order (R302). -/
def deliverArrivals (s : State) : State :=
  let m := arriving s
  m.1.foldl (fun t msg => enqueue msg t) m.2

/-! ## Skipping, stopping, and the first word (70_reset_and_hazards.md R354) -/

/-- Skip the instruction whose first word `w` was read at `pc0` (42_conditionals.md R203). -/
def skipInstr (pc0 w : Word) (s : State) : State :=
  let s1 := s.setPc (pc0 + BitVec.ofNat 16 (2 * wordLength w))
  if isConditionalWord w then s1 else (s1.setSkipping false).setMask .none

/-- `raise ReservedOpcode(w)`: the terminal run state (30_encoding.md R101, R354). -/
def performReserved (w : Word) (s : State) : Host.Outcome State Fault Refusal :=
  .next (s.setRun (.faulted (.reservedOpcode w)))

/-- Store octets `k`, `k + 1`, ... of a number at virtual addresses, straight into physical memory. -/
def storeOctets : Nat → Nat → Word → Nat → State → State
  | 0, _, _, _, s => s
  | n + 1, k, va, w, s =>
    storeOctets n (k + 1) (va + 1#16) w
      (s.setMem (s.mem.write (translate s.emu va).toNat (octetOfNat w k)))

end Sys2Proof.Machine
end

