-- ==== Sys2Proof/Machine/Operands.lean ====
section
/-! DEFINITION. Operands (40_operands.md): resolution of an operand code to a location, reading and writing a location,
and the byte mask on a write. -/

namespace Sys2Proof.Machine

/-- A location (40_operands.md section 3). -/
inductive Loc where
  | reg (r : Reg)
  | sp
  | pc
  | ex
  /-- The word at a virtual address. -/
  | mem (addr : Word)
  /-- A constant. -/
  | lit (v : Word)
  deriving DecidableEq, Repr

/-- The value of the inline literal of code 0x20 + k: `u16(code - 0x21)` (R132, 30_encoding.md R100). -/
def inlineValue (k : BitVec 5) : Word := k.setWidth 16 - 1#16

/-- Resolution of the operand codes that mean the same in a and b (R121, R122), and of 0x18 as `stack` says. -/
def resolveWith (stack : State → Loc × State) (o : Operand) (s : State) : Loc × State :=
  match o with
  | .reg r => (.reg r, s)
  | .ind r => (.mem (s.reg r), s)
  | .indNext r =>
    let nw := fetch16 s
    (.mem (nw.2.reg r + nw.1), nw.2)
  | .stack => stack s
  | .peek => (.mem s.sp, s)
  | .pick =>
    let nw := fetch16 s
    (.mem (nw.2.sp + nw.1), nw.2)
  | .sp => (.sp, s)
  | .pc => (.pc, s)
  | .ex => (.ex, s)
  | .absNext =>
    let nw := fetch16 s
    (.mem nw.1, nw.2)
  | .litNext =>
    let nw := fetch16 s
    (.lit nw.1, nw.2)
  | .inline k => (.lit (inlineValue k), s)

/-- Code 0x18 in a: POP, the word at SP, then SP up by 2 (R127). -/
def resolvePop (s : State) : Loc × State := (.mem s.sp, s.setSp (s.sp + 2#16))

/-- Code 0x18 in b: PUSH, SP down by 2, then the word at the new SP (R126). -/
def resolvePush (s : State) : Loc × State := (.mem (s.sp - 2#16), s.setSp (s.sp - 2#16))

/-- `ResolveA(code)` (R121). -/
def resolveA (o : Operand) (s : State) : Loc × State := resolveWith resolvePop o s

/-- `ResolveB(code)` (R122). No encoding gives b an inline literal; such a term resolves as it does in a (log 20). -/
def resolveB (o : Operand) (s : State) : Loc × State := resolveWith resolvePush o s

/-- `Read(loc)`: always 16 bits (R133). -/
def readLoc (l : Loc) (s : State) : Word × State :=
  match l with
  | .reg r => (s.reg r, s)
  | .sp => (s.sp, s)
  | .pc => (s.pc, s)
  | .ex => (s.ex, s)
  | .mem addr => readWord addr s
  | .lit v => (v, s)

/-- A register's new value under a byte mask (R134). -/
def maskMerge (m : ByteMask) (old v : Word) : Word :=
  match m with
  | .none => v
  | .keepHigh => joinOctets (hi8 old) (lo8 v)
  | .keepLow => joinOctets (hi8 v) (lo8 old)

/-- A memory word's write under a byte mask: one octet when masked, no read of the other (R134). -/
def writeMasked (addr v : Word) (m : ByteMask) (s : State) : State :=
  match m with
  | .none => writeWord addr v s
  | .keepHigh => writeOctet addr (lo8 v) s
  | .keepLow => writeOctet (addr + 1#16) (hi8 v) s

/-- `Write(loc, v, m)` (R134). A literal ignores the write (R132). -/
def writeLoc (l : Loc) (v : Word) (m : ByteMask) (s : State) : State :=
  match l with
  | .reg r => s.setReg r (maskMerge m (s.reg r) v)
  | .sp => s.setSp (maskMerge m s.sp v)
  | .pc => s.setPc (maskMerge m s.pc v)
  | .ex => s.setEx (maskMerge m s.ex v)
  | .mem addr => writeMasked addr v m s
  | .lit _ => s

/-- An operand that has been handled: its location, the value read there, and the state after (R120). -/
structure Handled where
  loc : Loc
  value : Word
  state : State
  deriving DecidableEq, Repr

/-- Read a resolved operand. -/
def handleLoc (p : Loc × State) : Handled :=
  let v := readLoc p.1 p.2
  ⟨p.1, v.1, v.2⟩

/-- Handle operand a: resolve, then read (R120, R121, R133). -/
def handleA (o : Operand) (s : State) : Handled := handleLoc (resolveA o s)

/-- Handle operand b: resolve, then read (R120, R122, R133). -/
def handleB (o : Operand) (s : State) : Handled := handleLoc (resolveB o s)

end Sys2Proof.Machine
end

