-- ==== Sys2Proof/Machine/Flags.lean ====
section
/-! DEFINITION. What each instruction computes: the result r and the new EX, as functions of the operand values vb and
va and of the old EX (41_basic_alu.md), the tests of the conditionals (42_conditionals.md), and the values of
the one-operand instructions (44_special.md). Sums and products are taken over the integers and then cut to
16 bits, as 00_scope.md R10 says. -/

namespace Sys2Proof.Machine

/-- A result and the new EX; `none` when the instruction does not write EX. -/
structure AluOut where
  r : Word
  ex : Option Word
  deriving DecidableEq, Repr

/-- `u16(n)` of an integer (R10). -/
def u16 (n : Int) : Word := BitVec.ofInt 16 n

/-- `s16(v)` (R10). -/
def s16 (v : Word) : Int := v.toInt

/-- ADD (R152). -/
def aluAdd (vb va _ex : Word) : AluOut :=
  let t := vb.toNat + va.toNat
  ⟨BitVec.ofNat 16 t, some (if t > 0xffff then 1#16 else 0#16)⟩

/-- SUB (R153). -/
def aluSub (vb va _ex : Word) : AluOut :=
  let t := (vb.toNat : Int) - va.toNat
  ⟨u16 t, some (if t < 0 then 0xffff#16 else 0#16)⟩

/-- ADX: EX read as unsigned (R170). -/
def aluAdx (vb va ex : Word) : AluOut :=
  let t := vb.toNat + va.toNat + ex.toNat
  ⟨BitVec.ofNat 16 t, some (if t > 0xffff then 1#16 else 0#16)⟩

/-- SBX: EX read as unsigned (R171). -/
def aluSbx (vb va ex : Word) : AluOut :=
  let t := (vb.toNat : Int) - va.toNat + ex.toNat
  ⟨u16 t, some (if t < 0 then 0xffff#16 else if t > 0xffff then 1#16 else 0#16)⟩

/-- MUL (R154). -/
def aluMul (vb va _ex : Word) : AluOut :=
  let t := vb.toNat * va.toNat
  ⟨BitVec.ofNat 16 t, some (BitVec.ofNat 16 (t >>> 16))⟩

/-- MLI: the high word is the arithmetic shift of the signed product (R155). -/
def aluMli (vb va _ex : Word) : AluOut :=
  let t := s16 vb * s16 va
  ⟨u16 t, some (u16 (t >>> (16 : Nat)))⟩

/-- DIV (R156). -/
def aluDiv (vb va _ex : Word) : AluOut :=
  if va = 0#16 then ⟨0#16, some 0#16⟩
  else ⟨BitVec.ofNat 16 (vb.toNat / va.toNat), some (BitVec.ofNat 16 (vb.toNat * 65536 / va.toNat))⟩

/-- DVI: both quotients round toward zero (R157). -/
def aluDvi (vb va _ex : Word) : AluOut :=
  if va = 0#16 then ⟨0#16, some 0#16⟩
  else ⟨u16 ((s16 vb).tdiv (s16 va)), some (u16 ((s16 vb * 65536).tdiv (s16 va)))⟩

/-- MOD; EX is not written (R158). -/
def aluMod (vb va _ex : Word) : AluOut :=
  ⟨if va = 0#16 then 0#16 else BitVec.ofNat 16 (vb.toNat % va.toNat), none⟩

/-- MDI: the remainder of the quotient rounded toward zero; EX is not written (R159). -/
def aluMdi (vb va _ex : Word) : AluOut :=
  ⟨if va = 0#16 then 0#16 else u16 (s16 vb - s16 va * (s16 vb).tdiv (s16 va)), none⟩

/-- AND (R160). -/
def aluAnd (vb va _ex : Word) : AluOut := ⟨vb &&& va, none⟩

/-- BOR (R161). -/
def aluBor (vb va _ex : Word) : AluOut := ⟨vb ||| va, none⟩

/-- XOR (R162). -/
def aluXor (vb va _ex : Word) : AluOut := ⟨vb ^^^ va, none⟩

/-- `vb : 0x0000`, the 32 bit value the right shifts move (R163, R164). -/
def shiftWide (vb : Word) : BitVec 32 := vb ++ 0#16

/-- SHR: the 32 bit value shifted right logically by the whole va (R163, R166). -/
def aluShr (vb va _ex : Word) : AluOut :=
  let t := shiftWide vb >>> va.toNat
  ⟨t.extractLsb' 16 16, some (t.extractLsb' 0 16)⟩

/-- ASR: the 32 bit value shifted right arithmetically by the whole va (R164, R166). -/
def aluAsr (vb va _ex : Word) : AluOut :=
  let t := (shiftWide vb).sshiftRight va.toNat
  ⟨t.extractLsb' 16 16, some (t.extractLsb' 0 16)⟩

/-- SHL: bits 15:0 and 31:16 of vb shifted left by the whole va (R165, R166). -/
def aluShl (vb va _ex : Word) : AluOut :=
  let t := vb.setWidth 32 <<< va.toNat
  ⟨t.extractLsb' 0 16, some (t.extractLsb' 16 16)⟩

/-- IFB (R204). -/
def testIfb (vb va : Word) : Bool := vb &&& va != 0#16
/-- IFC (R205). -/
def testIfc (vb va : Word) : Bool := vb &&& va == 0#16
/-- IFE (R206). -/
def testIfe (vb va : Word) : Bool := vb == va
/-- IFN (R207). -/
def testIfn (vb va : Word) : Bool := vb != va
/-- IFG, unsigned (R208). -/
def testIfg (vb va : Word) : Bool := decide (vb.toNat > va.toNat)
/-- IFA, signed (R209). -/
def testIfa (vb va : Word) : Bool := decide (s16 vb > s16 va)
/-- IFL, unsigned (R210). -/
def testIfl (vb va : Word) : Bool := decide (vb.toNat < va.toNat)
/-- IFU, signed (R211). -/
def testIfu (vb va : Word) : Bool := decide (s16 vb < s16 va)

/-- NEG: `u16(0 - va)` (44_special.md R233). -/
def negValue (va : Word) : Word := 0#16 - va
/-- SXB: `sext_8(lo8(va))` (R246). -/
def sxbValue (va : Word) : Word := sext8 (lo8 va)
/-- SWP: `lo8(va) : hi8(va)` (R247). -/
def swpValue (va : Word) : Word := joinOctets (lo8 va) (hi8 va)
/-- The block field of an EMU value, `va[3:0]` (R244, R245). -/
def emuBlockField (va : Word) : BlockNo := va.extractLsb' 0 4
/-- The page field of an EMU value, `va[15:4]` (R244). -/
def emuPageField (va : Word) : PageNo := va.extractLsb' 4 12
/-- MMR: `emu[s] : s` (R245). -/
def mmrValue (e : Vector PageNo 16) (va : Word) : Word := emuPage e (emuBlockField va) ++ emuBlockField va

end Sys2Proof.Machine
end

