-- ==== Sys2Proof/Machine/Frames.lean ====
section
/-! DEFINITION. The common frames of the instruction families: 41_basic_alu.md R150, 42_conditionals.md R200,
44_special.md R230. Every frame but the conditionals' ends with `mask <- None` (45_implied.md R275). -/

namespace Sys2Proof.Machine

/-- The last effect of every non-conditional instruction but BYT: `mask <- None`. -/
def finish (s : State) : Host.Outcome State Fault Refusal := .next (s.setMask .none)

/-- Write EX when the instruction has extra output (10_state.md R26). -/
def putEx (ex : Option Word) (s : State) : State :=
  match ex with
  | some v => s.setEx v
  | none => s

/-- The frame of an instruction that reads a and b and writes b (R150): a handled, then b, the function computed from
the values and EX, EX written, then b under the mask. -/
def performAlu (f : Word → Word → Word → AluOut) (b a : Operand) (s : State) : Host.Outcome State Fault Refusal :=
  let ha := handleA a s
  let hb := handleB b ha.state
  let out := f hb.value ha.value hb.state.ex
  finish (writeLoc hb.loc out.r s.mask (putEx out.ex hb.state))

/-- The frame of an instruction that reads a and writes b without reading it, with a further effect after the write
(R150, SET, STI, STD; 40_operands.md R136). -/
def performMove (after : State → State) (b a : Operand) (s : State) : Host.Outcome State Fault Refusal :=
  let ha := handleA a s
  let lb := resolveB b ha.state
  finish (after (writeLoc lb.1 ha.value s.mask lb.2))

/-- The frame of a conditional (R200): both operands handled, `skipping` set when the test fails, the mask left. -/
def performIf (test : Word → Word → Bool) (b a : Operand) (s : State) : Host.Outcome State Fault Refusal :=
  let ha := handleA a s
  let hb := handleB b ha.state
  .next (if test hb.value ha.value then hb.state else hb.state.setSkipping true)

/-- The frame of a special instruction that reads a and writes it back (R230: NEG, SXB, SWP, MMR). -/
def performUnary (f : State → Word → Word) (a : Operand) (s : State) : Host.Outcome State Fault Refusal :=
  let ha := handleA a s
  finish (writeLoc ha.loc (f ha.state ha.value) s.mask ha.state)

/-- The frame of a special instruction that only reads a (R230: JSR, BSR, INT, IAS, IAQ, MMW, RFI). -/
def performRead (f : Word → State → State) (a : Operand) (s : State) : Host.Outcome State Fault Refusal :=
  let ha := handleA a s
  finish (f ha.value ha.state)

end Sys2Proof.Machine
end

