-- ==== Sys2Proof/Machine/Arithmetic.lean ====
section
/-! DEFINITION. Addition, subtraction, multiplication and division (41_basic_alu.md sections 3 to 5). -/

namespace Sys2Proof.Machine

/-- `ADD b, a` (R152): "sets b to b + a", EX the carry. -/
def execAdd (b a : Operand) (s : State) : Host.Outcome State Fault Refusal :=
  performAlu aluAdd b a s

/-- `SUB b, a` (R153): "sets b to b - a", EX the borrow. -/
def execSub (b a : Operand) (s : State) : Host.Outcome State Fault Refusal :=
  performAlu aluSub b a s

/-- `ADX b, a` (R170): "sets b to b+a+EX", EX the carry. -/
def execAdx (b a : Operand) (s : State) : Host.Outcome State Fault Refusal :=
  performAlu aluAdx b a s

/-- `SBX b, a` (R171): "sets b to b-a+EX", EX the borrow or carry. -/
def execSbx (b a : Operand) (s : State) : Host.Outcome State Fault Refusal :=
  performAlu aluSbx b a s

/-- `MUL b, a` (R154): unsigned product, high word in EX. -/
def execMul (b a : Operand) (s : State) : Host.Outcome State Fault Refusal :=
  performAlu aluMul b a s

/-- `MLI b, a` (R155): signed product, high word in EX. -/
def execMli (b a : Operand) (s : State) : Host.Outcome State Fault Refusal :=
  performAlu aluMli b a s

/-- `DIV b, a` (R156): unsigned quotient, fraction in EX. -/
def execDiv (b a : Operand) (s : State) : Host.Outcome State Fault Refusal :=
  performAlu aluDiv b a s

/-- `DVI b, a` (R157): signed quotient rounded toward zero, fraction in EX. -/
def execDvi (b a : Operand) (s : State) : Host.Outcome State Fault Refusal :=
  performAlu aluDvi b a s

/-- `MOD b, a` (R158): unsigned remainder. -/
def execMod (b a : Operand) (s : State) : Host.Outcome State Fault Refusal :=
  performAlu aluMod b a s

/-- `MDI b, a` (R159): signed remainder, with the sign of the dividend. -/
def execMdi (b a : Operand) (s : State) : Host.Outcome State Fault Refusal :=
  performAlu aluMdi b a s

end Sys2Proof.Machine
end

