-- ==== Sys2Proof/Machine/BusIo.lean ====
section
/-! DEFINITION. I/O bus access (43_io.md): b is the address, a the data. -/

namespace Sys2Proof.Machine

/-- `HWW b, a` (R221): "writes a to I/O bus address b"; all 16 bits whatever the mask (R223). -/
def execHww (b a : Operand) (s : State) : Host.Outcome State Fault Refusal :=
  let ha := handleA a s
  let hb := handleB b ha.state
  finish (ioWrite hb.value ha.value hb.state)

/-- `HWR b, a` (R222): "reads a from I/O bus address b"; a is resolved first and not read, the read happens even when a is a literal. -/
def execHwr (b a : Operand) (s : State) : Host.Outcome State Fault Refusal :=
  let la := resolveA a s
  let hb := handleB b la.2
  let r := ioRead hb.value hb.state
  finish (writeLoc la.1 r.1 s.mask r.2)

end Sys2Proof.Machine
end

