-- ==== Sys2Proof/Machine/Conditionals.lean ====
section
/-! DEFINITION. The eight conditionals (42_conditionals.md section 2). -/

namespace Sys2Proof.Machine

/-- `IFB b, a` (R204): performs next instruction only if (b & a) != 0. -/
def execIfb (b a : Operand) (s : State) : Host.Outcome State Fault Refusal :=
  performIf testIfb b a s

/-- `IFC b, a` (R205): performs next instruction only if (b & a) == 0. -/
def execIfc (b a : Operand) (s : State) : Host.Outcome State Fault Refusal :=
  performIf testIfc b a s

/-- `IFE b, a` (R206): performs next instruction only if b == a. -/
def execIfe (b a : Operand) (s : State) : Host.Outcome State Fault Refusal :=
  performIf testIfe b a s

/-- `IFN b, a` (R207): performs next instruction only if b != a. -/
def execIfn (b a : Operand) (s : State) : Host.Outcome State Fault Refusal :=
  performIf testIfn b a s

/-- `IFG b, a` (R208): performs next instruction only if b > a, unsigned. -/
def execIfg (b a : Operand) (s : State) : Host.Outcome State Fault Refusal :=
  performIf testIfg b a s

/-- `IFA b, a` (R209): performs next instruction only if b > a, signed. -/
def execIfa (b a : Operand) (s : State) : Host.Outcome State Fault Refusal :=
  performIf testIfa b a s

/-- `IFL b, a` (R210): performs next instruction only if b < a, unsigned. -/
def execIfl (b a : Operand) (s : State) : Host.Outcome State Fault Refusal :=
  performIf testIfl b a s

/-- `IFU b, a` (R211): performs next instruction only if b < a, signed. -/
def execIfu (b a : Operand) (s : State) : Host.Outcome State Fault Refusal :=
  performIf testIfu b a s

end Sys2Proof.Machine
end

