-- ==== Sys2Proof/Machine/Implied.lean ====
section
/-! DEFINITION. The implied opcodes (45_implied.md). Only BYT uses the flag v (30_encoding.md R103). -/

namespace Sys2Proof.Machine

/-- `HLT` (R271): message 0 is enqueued when interrupts are enabled, else the CPU halts. -/
def execHlt (_v : Bool) (s : State) : Host.Outcome State Fault Refusal :=
  finish (if interruptsEnabled s then enqueue 0#16 s else s.setRun .halted)

/-- `SLP` (R273): halts operation until an interrupt is triggered. -/
def execSlp (_v : Bool) (s : State) : Host.Outcome State Fault Refusal :=
  finish (s.setRun .sleeping)

/-- `BYT` (R274): sets the mask, or clears a pending one whatever v (R276). -/
def execByt (v : Bool) (s : State) : Host.Outcome State Fault Refusal :=
  .next (s.setMask (if s.mask = .none then (if v then .keepHigh else .keepLow) else .none))

/-- `SKP` (R278): "Unconditionally skip next instruction". -/
def execSkp (_v : Bool) (s : State) : Host.Outcome State Fault Refusal :=
  finish (s.setSkipping true)

end Sys2Proof.Machine
end

