-- ==== Sys2Proof/Machine/Logic.lean ====
section
/-! DEFINITION. Bitwise logic and shifts (41_basic_alu.md sections 6 and 7). -/

namespace Sys2Proof.Machine

/-- `AND b, a` (R160): bitwise and. -/
def execAnd (b a : Operand) (s : State) : Host.Outcome State Fault Refusal :=
  performAlu aluAnd b a s

/-- `BOR b, a` (R161): bitwise or. -/
def execBor (b a : Operand) (s : State) : Host.Outcome State Fault Refusal :=
  performAlu aluBor b a s

/-- `XOR b, a` (R162): bitwise exclusive or. -/
def execXor (b a : Operand) (s : State) : Host.Outcome State Fault Refusal :=
  performAlu aluXor b a s

/-- `SHR b, a` (R163): logical shift right, bits shifted out in EX. -/
def execShr (b a : Operand) (s : State) : Host.Outcome State Fault Refusal :=
  performAlu aluShr b a s

/-- `ASR b, a` (R164): arithmetic shift right, bits shifted out in EX. -/
def execAsr (b a : Operand) (s : State) : Host.Outcome State Fault Refusal :=
  performAlu aluAsr b a s

/-- `SHL b, a` (R165): shift left, bits shifted out in EX. -/
def execShl (b a : Operand) (s : State) : Host.Outcome State Fault Refusal :=
  performAlu aluShl b a s

end Sys2Proof.Machine
end

