-- ==== Sys2Proof/Machine/Moves.lean ====
section
/-! DEFINITION. Data movement: SET, STI, STD (41_basic_alu.md section 2). -/

namespace Sys2Proof.Machine

/-- `x[6] <- u16(x[6] + d); x[7] <- u16(x[7] + d)`: I and J move by d after the write (R174, R175). -/
def stepPointers (d : Word) (s : State) : State :=
  let s1 := s.setReg .i (s.reg .i + d)
  s1.setReg .j (s1.reg .j + d)

/-- `SET b, a` (R151): "sets b to a". -/
def execSet (b a : Operand) (s : State) : Host.Outcome State Fault Refusal :=
  performMove (fun t => t) b a s

/-- `STI b, a` (R174): "sets b to a, then increases I and J by 1". -/
def execSti (b a : Operand) (s : State) : Host.Outcome State Fault Refusal :=
  performMove (stepPointers 1#16) b a s

/-- `STD b, a` (R175): "sets b to a, then decreases I and J by 1". -/
def execStd (b a : Operand) (s : State) : Host.Outcome State Fault Refusal :=
  performMove (stepPointers 0xffff#16) b a s

end Sys2Proof.Machine
end

