-- ==== Sys2Proof/Machine/Reserved.lean ====
section
/-! DEFINITION. The 48 blank opcode numbers (30_encoding.md R101). Performing one is the model fault
`ReservedOpcode(w)`: `run` becomes the terminal `Faulted` (70_reset_and_hazards.md R354), and no step leaves that
state. No operand is handled: R354 does nothing but set `run`. -/

namespace Sys2Proof.Machine

/-- reserved.basic.0x18: `raise ReservedOpcode(w)` (R101). -/
def execReservedBasic18 (b a : Operand) (s : State) : Host.Outcome State Fault Refusal :=
  performReserved (basicWord 0x18 b a) s

/-- reserved.basic.0x19: `raise ReservedOpcode(w)` (R101). -/
def execReservedBasic19 (b a : Operand) (s : State) : Host.Outcome State Fault Refusal :=
  performReserved (basicWord 0x19 b a) s

/-- reserved.special.0x03: `raise ReservedOpcode(w)` (R101). -/
def execReservedSpecial03 (a : Operand) (s : State) : Host.Outcome State Fault Refusal :=
  performReserved (specialWord 0x03 a) s

/-- reserved.special.0x04: `raise ReservedOpcode(w)` (R101). -/
def execReservedSpecial04 (a : Operand) (s : State) : Host.Outcome State Fault Refusal :=
  performReserved (specialWord 0x04 a) s

/-- reserved.special.0x06: `raise ReservedOpcode(w)` (R101). -/
def execReservedSpecial06 (a : Operand) (s : State) : Host.Outcome State Fault Refusal :=
  performReserved (specialWord 0x06 a) s

/-- reserved.special.0x0d: `raise ReservedOpcode(w)` (R101). -/
def execReservedSpecial0d (a : Operand) (s : State) : Host.Outcome State Fault Refusal :=
  performReserved (specialWord 0x0d a) s

/-- reserved.special.0x10: `raise ReservedOpcode(w)` (R101). -/
def execReservedSpecial10 (a : Operand) (s : State) : Host.Outcome State Fault Refusal :=
  performReserved (specialWord 0x10 a) s

/-- reserved.special.0x11: `raise ReservedOpcode(w)` (R101). -/
def execReservedSpecial11 (a : Operand) (s : State) : Host.Outcome State Fault Refusal :=
  performReserved (specialWord 0x11 a) s

/-- reserved.special.0x12: `raise ReservedOpcode(w)` (R101). -/
def execReservedSpecial12 (a : Operand) (s : State) : Host.Outcome State Fault Refusal :=
  performReserved (specialWord 0x12 a) s

/-- reserved.special.0x13: `raise ReservedOpcode(w)` (R101). -/
def execReservedSpecial13 (a : Operand) (s : State) : Host.Outcome State Fault Refusal :=
  performReserved (specialWord 0x13 a) s

/-- reserved.special.0x16: `raise ReservedOpcode(w)` (R101). -/
def execReservedSpecial16 (a : Operand) (s : State) : Host.Outcome State Fault Refusal :=
  performReserved (specialWord 0x16 a) s

/-- reserved.special.0x17: `raise ReservedOpcode(w)` (R101). -/
def execReservedSpecial17 (a : Operand) (s : State) : Host.Outcome State Fault Refusal :=
  performReserved (specialWord 0x17 a) s

/-- reserved.special.0x18: `raise ReservedOpcode(w)` (R101). -/
def execReservedSpecial18 (a : Operand) (s : State) : Host.Outcome State Fault Refusal :=
  performReserved (specialWord 0x18 a) s

/-- reserved.special.0x19: `raise ReservedOpcode(w)` (R101). -/
def execReservedSpecial19 (a : Operand) (s : State) : Host.Outcome State Fault Refusal :=
  performReserved (specialWord 0x19 a) s

/-- reserved.special.0x1a: `raise ReservedOpcode(w)` (R101). -/
def execReservedSpecial1a (a : Operand) (s : State) : Host.Outcome State Fault Refusal :=
  performReserved (specialWord 0x1a a) s

/-- reserved.special.0x1b: `raise ReservedOpcode(w)` (R101). -/
def execReservedSpecial1b (a : Operand) (s : State) : Host.Outcome State Fault Refusal :=
  performReserved (specialWord 0x1b a) s

/-- reserved.special.0x1c: `raise ReservedOpcode(w)` (R101). -/
def execReservedSpecial1c (a : Operand) (s : State) : Host.Outcome State Fault Refusal :=
  performReserved (specialWord 0x1c a) s

/-- reserved.special.0x1d: `raise ReservedOpcode(w)` (R101). -/
def execReservedSpecial1d (a : Operand) (s : State) : Host.Outcome State Fault Refusal :=
  performReserved (specialWord 0x1d a) s

/-- reserved.special.0x1e: `raise ReservedOpcode(w)` (R101). -/
def execReservedSpecial1e (a : Operand) (s : State) : Host.Outcome State Fault Refusal :=
  performReserved (specialWord 0x1e a) s

/-- reserved.special.0x1f: `raise ReservedOpcode(w)` (R101). -/
def execReservedSpecial1f (a : Operand) (s : State) : Host.Outcome State Fault Refusal :=
  performReserved (specialWord 0x1f a) s

/-- reserved.implied.0x02: `raise ReservedOpcode(w)` (R101). -/
def execReservedImplied02 (v : Bool) (s : State) : Host.Outcome State Fault Refusal :=
  performReserved (impliedWord 0x02 v) s

/-- reserved.implied.0x03: `raise ReservedOpcode(w)` (R101). -/
def execReservedImplied03 (v : Bool) (s : State) : Host.Outcome State Fault Refusal :=
  performReserved (impliedWord 0x03 v) s

/-- reserved.implied.0x05: `raise ReservedOpcode(w)` (R101). -/
def execReservedImplied05 (v : Bool) (s : State) : Host.Outcome State Fault Refusal :=
  performReserved (impliedWord 0x05 v) s

/-- reserved.implied.0x06: `raise ReservedOpcode(w)` (R101). -/
def execReservedImplied06 (v : Bool) (s : State) : Host.Outcome State Fault Refusal :=
  performReserved (impliedWord 0x06 v) s

/-- reserved.implied.0x07: `raise ReservedOpcode(w)` (R101). -/
def execReservedImplied07 (v : Bool) (s : State) : Host.Outcome State Fault Refusal :=
  performReserved (impliedWord 0x07 v) s

/-- reserved.implied.0x08: `raise ReservedOpcode(w)` (R101). -/
def execReservedImplied08 (v : Bool) (s : State) : Host.Outcome State Fault Refusal :=
  performReserved (impliedWord 0x08 v) s

/-- reserved.implied.0x09: `raise ReservedOpcode(w)` (R101). -/
def execReservedImplied09 (v : Bool) (s : State) : Host.Outcome State Fault Refusal :=
  performReserved (impliedWord 0x09 v) s

/-- reserved.implied.0x0a: `raise ReservedOpcode(w)` (R101). -/
def execReservedImplied0a (v : Bool) (s : State) : Host.Outcome State Fault Refusal :=
  performReserved (impliedWord 0x0a v) s

/-- reserved.implied.0x0b: `raise ReservedOpcode(w)` (R101). -/
def execReservedImplied0b (v : Bool) (s : State) : Host.Outcome State Fault Refusal :=
  performReserved (impliedWord 0x0b v) s

/-- reserved.implied.0x0c: `raise ReservedOpcode(w)` (R101). -/
def execReservedImplied0c (v : Bool) (s : State) : Host.Outcome State Fault Refusal :=
  performReserved (impliedWord 0x0c v) s

/-- reserved.implied.0x0d: `raise ReservedOpcode(w)` (R101). -/
def execReservedImplied0d (v : Bool) (s : State) : Host.Outcome State Fault Refusal :=
  performReserved (impliedWord 0x0d v) s

/-- reserved.implied.0x0e: `raise ReservedOpcode(w)` (R101). -/
def execReservedImplied0e (v : Bool) (s : State) : Host.Outcome State Fault Refusal :=
  performReserved (impliedWord 0x0e v) s

/-- reserved.implied.0x0f: `raise ReservedOpcode(w)` (R101). -/
def execReservedImplied0f (v : Bool) (s : State) : Host.Outcome State Fault Refusal :=
  performReserved (impliedWord 0x0f v) s

/-- reserved.implied.0x11: `raise ReservedOpcode(w)` (R101). -/
def execReservedImplied11 (v : Bool) (s : State) : Host.Outcome State Fault Refusal :=
  performReserved (impliedWord 0x11 v) s

/-- reserved.implied.0x12: `raise ReservedOpcode(w)` (R101). -/
def execReservedImplied12 (v : Bool) (s : State) : Host.Outcome State Fault Refusal :=
  performReserved (impliedWord 0x12 v) s

/-- reserved.implied.0x13: `raise ReservedOpcode(w)` (R101). -/
def execReservedImplied13 (v : Bool) (s : State) : Host.Outcome State Fault Refusal :=
  performReserved (impliedWord 0x13 v) s

/-- reserved.implied.0x14: `raise ReservedOpcode(w)` (R101). -/
def execReservedImplied14 (v : Bool) (s : State) : Host.Outcome State Fault Refusal :=
  performReserved (impliedWord 0x14 v) s

/-- reserved.implied.0x15: `raise ReservedOpcode(w)` (R101). -/
def execReservedImplied15 (v : Bool) (s : State) : Host.Outcome State Fault Refusal :=
  performReserved (impliedWord 0x15 v) s

/-- reserved.implied.0x16: `raise ReservedOpcode(w)` (R101). -/
def execReservedImplied16 (v : Bool) (s : State) : Host.Outcome State Fault Refusal :=
  performReserved (impliedWord 0x16 v) s

/-- reserved.implied.0x17: `raise ReservedOpcode(w)` (R101). -/
def execReservedImplied17 (v : Bool) (s : State) : Host.Outcome State Fault Refusal :=
  performReserved (impliedWord 0x17 v) s

/-- reserved.implied.0x18: `raise ReservedOpcode(w)` (R101). -/
def execReservedImplied18 (v : Bool) (s : State) : Host.Outcome State Fault Refusal :=
  performReserved (impliedWord 0x18 v) s

/-- reserved.implied.0x19: `raise ReservedOpcode(w)` (R101). -/
def execReservedImplied19 (v : Bool) (s : State) : Host.Outcome State Fault Refusal :=
  performReserved (impliedWord 0x19 v) s

/-- reserved.implied.0x1a: `raise ReservedOpcode(w)` (R101). -/
def execReservedImplied1a (v : Bool) (s : State) : Host.Outcome State Fault Refusal :=
  performReserved (impliedWord 0x1a v) s

/-- reserved.implied.0x1b: `raise ReservedOpcode(w)` (R101). -/
def execReservedImplied1b (v : Bool) (s : State) : Host.Outcome State Fault Refusal :=
  performReserved (impliedWord 0x1b v) s

/-- reserved.implied.0x1c: `raise ReservedOpcode(w)` (R101). -/
def execReservedImplied1c (v : Bool) (s : State) : Host.Outcome State Fault Refusal :=
  performReserved (impliedWord 0x1c v) s

/-- reserved.implied.0x1d: `raise ReservedOpcode(w)` (R101). -/
def execReservedImplied1d (v : Bool) (s : State) : Host.Outcome State Fault Refusal :=
  performReserved (impliedWord 0x1d v) s

/-- reserved.implied.0x1e: `raise ReservedOpcode(w)` (R101). -/
def execReservedImplied1e (v : Bool) (s : State) : Host.Outcome State Fault Refusal :=
  performReserved (impliedWord 0x1e v) s

/-- reserved.implied.0x1f: `raise ReservedOpcode(w)` (R101). -/
def execReservedImplied1f (v : Bool) (s : State) : Host.Outcome State Fault Refusal :=
  performReserved (impliedWord 0x1f v) s

end Sys2Proof.Machine
end

