-- ==== Sys2Proof/Machine/Special.lean ====
section
/-! DEFINITION. The special opcodes (44_special.md). -/

namespace Sys2Proof.Machine

/-- `JSR a` (R231): a is read, the address of the next instruction pushed, PC set to a. -/
def execJsr (a : Operand) (s : State) : Host.Outcome State Fault Refusal :=
  performRead (fun va t => (push t.pc t).setPc va) a s

/-- `BSR a` (R232): a is read, the address of the next instruction pushed, a added to PC. -/
def execBsr (a : Operand) (s : State) : Host.Outcome State Fault Refusal :=
  performRead (fun va t => (push t.pc t).setPc (t.pc + va)) a s

/-- `NEG a` (R233): "sets a to its two's complement negation." -/
def execNeg (a : Operand) (s : State) : Host.Outcome State Fault Refusal :=
  performUnary (fun _ va => negValue va) a s

/-- `HCF a` (R234): `run <- OnFire`. What is stored in a, whether anything is, and EX are free values (log 8). -/
def execHcf (a : Operand) (s : State) : Host.Outcome State Fault Refusal :=
  let la := resolveA a s
  let s1 := la.2.setEx (Config.hcfEx la.2.bus la.2.ex)
  let s2 := match Config.hcfPower la.2.bus with
    | some v => writeLoc la.1 v s.mask s1
    | none => s1
  finish (s2.setRun .onFire)

/-- `INT a` (R235): the message a is enqueued; it is triggered at a boundary (R305). -/
def execInt (a : Operand) (s : State) : Host.Outcome State Fault Refusal :=
  performRead enqueue a s

/-- `IAG a` (R236): "sets a to IA"; a is not read. -/
def execIag (a : Operand) (s : State) : Host.Outcome State Fault Refusal :=
  let la := resolveA a s
  finish (writeLoc la.1 la.2.ia s.mask la.2)

/-- `IAS a` (R237): "sets IA to a"; never byte-masked. -/
def execIas (a : Operand) (s : State) : Host.Outcome State Fault Refusal :=
  performRead (fun va t => t.setIa va) a s

/-- `RFI a` (R238): a is handled and its value ignored; queueing off, A popped, PC popped. -/
def execRfi (a : Operand) (s : State) : Host.Outcome State Fault Refusal :=
  performRead (fun _ t => returnFromInterrupt t) a s

/-- `IAQ a` (R239): queueing on when a is nonzero, off when it is zero. -/
def execIaq (a : Operand) (s : State) : Host.Outcome State Fault Refusal :=
  performRead (fun va t => t.setQueueing (va != 0#16)) a s

/-- `MMW a` (R244): "sets block s to page p". -/
def execMmw (a : Operand) (s : State) : Host.Outcome State Fault Refusal :=
  performRead (fun va t => t.setEmu (emuMap t.emu (emuBlockField va) (emuPageField va))) a s

/-- `MMR a` (R245): the page field of a is replaced by the page of the block its low four bits name. -/
def execMmr (a : Operand) (s : State) : Host.Outcome State Fault Refusal :=
  performUnary (fun t va => mmrValue t.emu va) a s

/-- `SXB a` (R246): "sets all bits in high octet of a to the MSB of the low octet." -/
def execSxb (a : Operand) (s : State) : Host.Outcome State Fault Refusal :=
  performUnary (fun _ va => sxbValue va) a s

/-- `SWP a` (R247): "swap the high and low octets in a". -/
def execSwp (a : Operand) (s : State) : Host.Outcome State Fault Refusal :=
  performUnary (fun _ va => swpValue va) a s

end Sys2Proof.Machine
end

