-- ==== Sys2Proof/Machine/Dispatch.lean ====
section
/-! DEFINITION. One arm per constructor of `Instr`: each instruction's meaning. `exec i s` is "perform" of
70_reset_and_hazards.md R354: `s` is the state after the first word has been read, so its PC is past that word. -/

namespace Sys2Proof.Machine

def exec (i : Instr) (s : State) : Host.Outcome State Fault Refusal :=
  match i with
  | .set b a => Sys2Proof.Machine.execSet b a s
  | .add b a => Sys2Proof.Machine.execAdd b a s
  | .sub b a => Sys2Proof.Machine.execSub b a s
  | .mul b a => Sys2Proof.Machine.execMul b a s
  | .mli b a => Sys2Proof.Machine.execMli b a s
  | .div b a => Sys2Proof.Machine.execDiv b a s
  | .dvi b a => Sys2Proof.Machine.execDvi b a s
  | .mod b a => Sys2Proof.Machine.execMod b a s
  | .mdi b a => Sys2Proof.Machine.execMdi b a s
  | .and b a => Sys2Proof.Machine.execAnd b a s
  | .bor b a => Sys2Proof.Machine.execBor b a s
  | .xor b a => Sys2Proof.Machine.execXor b a s
  | .shr b a => Sys2Proof.Machine.execShr b a s
  | .asr b a => Sys2Proof.Machine.execAsr b a s
  | .shl b a => Sys2Proof.Machine.execShl b a s
  | .ifb b a => Sys2Proof.Machine.execIfb b a s
  | .ifc b a => Sys2Proof.Machine.execIfc b a s
  | .ife b a => Sys2Proof.Machine.execIfe b a s
  | .ifn b a => Sys2Proof.Machine.execIfn b a s
  | .ifg b a => Sys2Proof.Machine.execIfg b a s
  | .ifa b a => Sys2Proof.Machine.execIfa b a s
  | .ifl b a => Sys2Proof.Machine.execIfl b a s
  | .ifu b a => Sys2Proof.Machine.execIfu b a s
  | .reservedBasic18 b a => Sys2Proof.Machine.execReservedBasic18 b a s
  | .reservedBasic19 b a => Sys2Proof.Machine.execReservedBasic19 b a s
  | .adx b a => Sys2Proof.Machine.execAdx b a s
  | .sbx b a => Sys2Proof.Machine.execSbx b a s
  | .hww b a => Sys2Proof.Machine.execHww b a s
  | .hwr b a => Sys2Proof.Machine.execHwr b a s
  | .sti b a => Sys2Proof.Machine.execSti b a s
  | .std b a => Sys2Proof.Machine.execStd b a s
  | .jsr a => Sys2Proof.Machine.execJsr a s
  | .bsr a => Sys2Proof.Machine.execBsr a s
  | .reservedSpecial03 a => Sys2Proof.Machine.execReservedSpecial03 a s
  | .reservedSpecial04 a => Sys2Proof.Machine.execReservedSpecial04 a s
  | .neg a => Sys2Proof.Machine.execNeg a s
  | .reservedSpecial06 a => Sys2Proof.Machine.execReservedSpecial06 a s
  | .hcf a => Sys2Proof.Machine.execHcf a s
  | .int a => Sys2Proof.Machine.execInt a s
  | .iag a => Sys2Proof.Machine.execIag a s
  | .ias a => Sys2Proof.Machine.execIas a s
  | .rfi a => Sys2Proof.Machine.execRfi a s
  | .iaq a => Sys2Proof.Machine.execIaq a s
  | .reservedSpecial0d a => Sys2Proof.Machine.execReservedSpecial0d a s
  | .mmw a => Sys2Proof.Machine.execMmw a s
  | .mmr a => Sys2Proof.Machine.execMmr a s
  | .reservedSpecial10 a => Sys2Proof.Machine.execReservedSpecial10 a s
  | .reservedSpecial11 a => Sys2Proof.Machine.execReservedSpecial11 a s
  | .reservedSpecial12 a => Sys2Proof.Machine.execReservedSpecial12 a s
  | .reservedSpecial13 a => Sys2Proof.Machine.execReservedSpecial13 a s
  | .sxb a => Sys2Proof.Machine.execSxb a s
  | .swp a => Sys2Proof.Machine.execSwp a s
  | .reservedSpecial16 a => Sys2Proof.Machine.execReservedSpecial16 a s
  | .reservedSpecial17 a => Sys2Proof.Machine.execReservedSpecial17 a s
  | .reservedSpecial18 a => Sys2Proof.Machine.execReservedSpecial18 a s
  | .reservedSpecial19 a => Sys2Proof.Machine.execReservedSpecial19 a s
  | .reservedSpecial1a a => Sys2Proof.Machine.execReservedSpecial1a a s
  | .reservedSpecial1b a => Sys2Proof.Machine.execReservedSpecial1b a s
  | .reservedSpecial1c a => Sys2Proof.Machine.execReservedSpecial1c a s
  | .reservedSpecial1d a => Sys2Proof.Machine.execReservedSpecial1d a s
  | .reservedSpecial1e a => Sys2Proof.Machine.execReservedSpecial1e a s
  | .reservedSpecial1f a => Sys2Proof.Machine.execReservedSpecial1f a s
  | .hlt v => Sys2Proof.Machine.execHlt v s
  | .slp v => Sys2Proof.Machine.execSlp v s
  | .reservedImplied02 v => Sys2Proof.Machine.execReservedImplied02 v s
  | .reservedImplied03 v => Sys2Proof.Machine.execReservedImplied03 v s
  | .byt v => Sys2Proof.Machine.execByt v s
  | .reservedImplied05 v => Sys2Proof.Machine.execReservedImplied05 v s
  | .reservedImplied06 v => Sys2Proof.Machine.execReservedImplied06 v s
  | .reservedImplied07 v => Sys2Proof.Machine.execReservedImplied07 v s
  | .reservedImplied08 v => Sys2Proof.Machine.execReservedImplied08 v s
  | .reservedImplied09 v => Sys2Proof.Machine.execReservedImplied09 v s
  | .reservedImplied0a v => Sys2Proof.Machine.execReservedImplied0a v s
  | .reservedImplied0b v => Sys2Proof.Machine.execReservedImplied0b v s
  | .reservedImplied0c v => Sys2Proof.Machine.execReservedImplied0c v s
  | .reservedImplied0d v => Sys2Proof.Machine.execReservedImplied0d v s
  | .reservedImplied0e v => Sys2Proof.Machine.execReservedImplied0e v s
  | .reservedImplied0f v => Sys2Proof.Machine.execReservedImplied0f v s
  | .skp v => Sys2Proof.Machine.execSkp v s
  | .reservedImplied11 v => Sys2Proof.Machine.execReservedImplied11 v s
  | .reservedImplied12 v => Sys2Proof.Machine.execReservedImplied12 v s
  | .reservedImplied13 v => Sys2Proof.Machine.execReservedImplied13 v s
  | .reservedImplied14 v => Sys2Proof.Machine.execReservedImplied14 v s
  | .reservedImplied15 v => Sys2Proof.Machine.execReservedImplied15 v s
  | .reservedImplied16 v => Sys2Proof.Machine.execReservedImplied16 v s
  | .reservedImplied17 v => Sys2Proof.Machine.execReservedImplied17 v s
  | .reservedImplied18 v => Sys2Proof.Machine.execReservedImplied18 v s
  | .reservedImplied19 v => Sys2Proof.Machine.execReservedImplied19 v s
  | .reservedImplied1a v => Sys2Proof.Machine.execReservedImplied1a v s
  | .reservedImplied1b v => Sys2Proof.Machine.execReservedImplied1b v s
  | .reservedImplied1c v => Sys2Proof.Machine.execReservedImplied1c v s
  | .reservedImplied1d v => Sys2Proof.Machine.execReservedImplied1d v s
  | .reservedImplied1e v => Sys2Proof.Machine.execReservedImplied1e v s
  | .reservedImplied1f v => Sys2Proof.Machine.execReservedImplied1f v s

end Sys2Proof.Machine
end

