-- ==== Sys2Proof/Machine/Step.lean ====
section
/-! DEFINITION. One step of the CPU (70_reset_and_hazards.md R354), over the operations of Machine/Ops.lean. -/

namespace Sys2Proof.Machine

/-- Parts (2) to (5) of R354, after the instruction boundary: asleep, nothing more; else the first word is read, and the
instruction is skipped or performed. -/
def stepInstr (s : State) : Host.Outcome State Fault Refusal :=
  if s.run = .sleeping then .next s
  else
    let w := fetch16 s
    if w.2.skipping then .next (skipInstr s.pc w.1 w.2) else exec (decode w.1) w.2

/-- One step (R354): the arriving hardware interrupts are delivered (R302), then the instruction boundary, then one
instruction is performed or skipped. No step exists from a terminal run state. A delivery that overflows the queue
sets the machine on fire and the CPU does nothing more (R304). -/
def step (s : State) : Host.Outcome State Fault Refusal :=
  match s.run with
  | .halted => .fault .halted
  | .onFire => .fault .onFire
  | .faulted reason => .fault (.faulted reason)
  | .running | .sleeping =>
    let t := deliverArrivals s
    if t.run = .onFire then .next t else stepInstr (boundary t)

/-- The state with an opcode-table word, and zeros above it up to three words, stored at PC (log 12). -/
def State.withFetchWord (s : State) (nbits w : Nat) : State := storeOctets 6 0 s.pc (w % 2 ^ nbits) s

end Sys2Proof.Machine
end

