-- ==== Sys2Proof/Machine/Timing.lean ====
section
/-! DEFINITION. The cycle counts of 70_reset_and_hazards.md section 4, which are INFORMATIVE: "No rule of the model
depends on anything in this section". No step reads these functions and State holds no clock (log 15). -/

namespace Sys2Proof.Machine

/-- Column C of the Values table (40_operands.md R139, R367). -/
def operandCycles : Operand → Nat
  | .reg _ | .sp | .pc | .ex | .inline _ => 0
  | .ind _ | .stack | .peek | .litNext => 1
  | .indNext _ | .pick | .absNext => 2

/-- Column C of the opcode tables (R367); a reserved opcode has no cost there. -/
def opcodeCycles : Instr → Option Nat
  | .set _ _ => some 1
  | .add _ _ => some 2
  | .sub _ _ => some 2
  | .mul _ _ => some 3
  | .mli _ _ => some 4
  | .div _ _ => some 9
  | .dvi _ _ => some 10
  | .mod _ _ => some 6
  | .mdi _ _ => some 7
  | .and _ _ => some 1
  | .bor _ _ => some 1
  | .xor _ _ => some 1
  | .shr _ _ => some 1
  | .asr _ _ => some 1
  | .shl _ _ => some 1
  | .ifb _ _ => some 2
  | .ifc _ _ => some 2
  | .ife _ _ => some 2
  | .ifn _ _ => some 2
  | .ifg _ _ => some 2
  | .ifa _ _ => some 2
  | .ifl _ _ => some 2
  | .ifu _ _ => some 2
  | .reservedBasic18 _ _ => none
  | .reservedBasic19 _ _ => none
  | .adx _ _ => some 3
  | .sbx _ _ => some 3
  | .hww _ _ => some 3
  | .hwr _ _ => some 3
  | .sti _ _ => some 2
  | .std _ _ => some 2
  | .jsr _ => some 3
  | .bsr _ => some 4
  | .reservedSpecial03 _ => none
  | .reservedSpecial04 _ => none
  | .neg _ => some 1
  | .reservedSpecial06 _ => none
  | .hcf _ => some 421
  | .int _ => some 4
  | .iag _ => some 1
  | .ias _ => some 1
  | .rfi _ => some 3
  | .iaq _ => some 2
  | .reservedSpecial0d _ => none
  | .mmw _ => some 4
  | .mmr _ => some 4
  | .reservedSpecial10 _ => none
  | .reservedSpecial11 _ => none
  | .reservedSpecial12 _ => none
  | .reservedSpecial13 _ => none
  | .sxb _ => some 1
  | .swp _ => some 2
  | .reservedSpecial16 _ => none
  | .reservedSpecial17 _ => none
  | .reservedSpecial18 _ => none
  | .reservedSpecial19 _ => none
  | .reservedSpecial1a _ => none
  | .reservedSpecial1b _ => none
  | .reservedSpecial1c _ => none
  | .reservedSpecial1d _ => none
  | .reservedSpecial1e _ => none
  | .reservedSpecial1f _ => none
  | .hlt _ => some 4
  | .slp _ => some 3
  | .reservedImplied02 _ => none
  | .reservedImplied03 _ => none
  | .byt _ => some 1
  | .reservedImplied05 _ => none
  | .reservedImplied06 _ => none
  | .reservedImplied07 _ => none
  | .reservedImplied08 _ => none
  | .reservedImplied09 _ => none
  | .reservedImplied0a _ => none
  | .reservedImplied0b _ => none
  | .reservedImplied0c _ => none
  | .reservedImplied0d _ => none
  | .reservedImplied0e _ => none
  | .reservedImplied0f _ => none
  | .skp _ => some 2
  | .reservedImplied11 _ => none
  | .reservedImplied12 _ => none
  | .reservedImplied13 _ => none
  | .reservedImplied14 _ => none
  | .reservedImplied15 _ => none
  | .reservedImplied16 _ => none
  | .reservedImplied17 _ => none
  | .reservedImplied18 _ => none
  | .reservedImplied19 _ => none
  | .reservedImplied1a _ => none
  | .reservedImplied1b _ => none
  | .reservedImplied1c _ => none
  | .reservedImplied1d _ => none
  | .reservedImplied1e _ => none
  | .reservedImplied1f _ => none

/-- The operand terms of the cost formula, for the operands the format has (R366). -/
def operandsCycles : Instr → Nat
  | .set b a | .add b a | .sub b a | .mul b a | .mli b a | .div b a | .dvi b a | .mod b a | .mdi b a | .and b a
  | .bor b a | .xor b a | .shr b a | .asr b a | .shl b a | .ifb b a | .ifc b a | .ife b a | .ifn b a | .ifg b a
  | .ifa b a | .ifl b a | .ifu b a | .reservedBasic18 b a | .reservedBasic19 b a | .adx b a | .sbx b a
  | .hww b a | .hwr b a | .sti b a | .std b a =>
    operandCycles a + operandCycles b
  | .jsr a | .bsr a | .reservedSpecial03 a | .reservedSpecial04 a | .neg a | .reservedSpecial06 a | .hcf a
  | .int a | .iag a | .ias a | .rfi a | .iaq a | .reservedSpecial0d a | .mmw a | .mmr a | .reservedSpecial10 a
  | .reservedSpecial11 a | .reservedSpecial12 a | .reservedSpecial13 a | .sxb a | .swp a | .reservedSpecial16 a
  | .reservedSpecial17 a | .reservedSpecial18 a | .reservedSpecial19 a | .reservedSpecial1a a
  | .reservedSpecial1b a | .reservedSpecial1c a | .reservedSpecial1d a | .reservedSpecial1e a
  | .reservedSpecial1f a => operandCycles a
  | .hlt _ | .slp _ | .reservedImplied02 _ | .reservedImplied03 _ | .byt _ | .reservedImplied05 _
  | .reservedImplied06 _ | .reservedImplied07 _ | .reservedImplied08 _ | .reservedImplied09 _
  | .reservedImplied0a _ | .reservedImplied0b _ | .reservedImplied0c _ | .reservedImplied0d _
  | .reservedImplied0e _ | .reservedImplied0f _ | .skp _ | .reservedImplied11 _ | .reservedImplied12 _
  | .reservedImplied13 _ | .reservedImplied14 _ | .reservedImplied15 _ | .reservedImplied16 _
  | .reservedImplied17 _ | .reservedImplied18 _ | .reservedImplied19 _ | .reservedImplied1a _
  | .reservedImplied1b _ | .reservedImplied1c _ | .reservedImplied1d _ | .reservedImplied1e _
  | .reservedImplied1f _ => 0

/-- The cost formula of R366 for one performed instruction whose first word is at `pc0`: `testFailed` says that it is a
conditional whose test fails (42_conditionals.md R214), `skippedAfterFirst` counts the instructions skipped after the
first of a chain, `narrow` the 16 bit transfers with a device of 8 bit connection (R369). An odd `pc0` costs one cycle
(R368). -/
def performCycles (pc0 : Word) (testFailed : Bool) (skippedAfterFirst narrow : Nat) (i : Instr) : Option Nat :=
  (opcodeCycles i).map fun c =>
    c + operandsCycles i + (if pc0.getLsbD 0 then 1 else 0) + (if testFailed then 1 else 0) +
      skippedAfterFirst + narrow

end Sys2Proof.Machine
end

