-- ==== Sys2Proof/Safety.lean ====
section
/-! DEFINITION. The terms claims are stated in: what counts as a safe run, the invariant of the machine, and what an
instruction's effect on the registers, the memory and the bus is, said by reading the state before and after. -/

namespace Sys2Proof.Machine

/-! ## Safe runs and the invariant -/

/-- Neither on fire nor faulted: "a claim about a program takes never OnFire as an obligation" (60_exceptions.md R304). -/
def State.intact (s : State) : Bool :=
  match s.run with
  | .onFire | .faulted _ => false
  | _ => true

/-- The machine stays intact for `n` steps, or until it halts. -/
def intactFor : Nat → State → Bool
  | 0, s => s.intact
  | n + 1, s =>
    s.intact &&
      match step s with
      | .next t => intactFor n t
      | _ => true

/-- The invariant: memory is canonical, the queue holds at most 256 messages (10_state.md R34), and a sleeping CPU has
no byte mask pending and is not skipping (SLP uses the mask up, 45_implied.md R273, and nothing runs after it). -/
def State.Inv (s : State) : Prop :=
  s.mem.wf = true ∧ s.queue.length ≤ 256 ∧ (s.run = .sleeping → s.mask = .none ∧ s.skipping = false)

/-! ## Observing an effect -/

/-- The physical address of an octet store `(virtual address, value)`. -/
def storePhys (s : State) (c : Word × Octet) : PhysAddr := translate s.emu c.1

/-- What answers an octet store. -/
def storeKind (s : State) (c : Word × Octet) : CellKind := kindAt s.physMap (storePhys s c)

/-- Memory after the octet stores of an instruction: each RAM octet stored to holds its value, and every other octet of the
24 bit space reads as before. With no stores, all of memory reads as before. -/
def Stored (s t : State) (stores : List (Word × Octet)) : Prop :=
  (∀ c ∈ stores, storeKind s c = .ram → t.mem.read (storePhys s c).toNat = c.2) ∧
  ∀ pa : PhysAddr, (∀ c ∈ stores, storeKind s c = .ram → storePhys s c ≠ pa) →
    t.mem.read pa.toNat = s.mem.read pa.toNat

/-- What the platform sees of the octet stores of an instruction: those to devices, newest first. -/
def deviceWrites (s : State) (stores : List (Word × Octet)) : List BusEvent :=
  ((stores.filter fun c => storeKind s c == .device).map fun c => .memWrite (storePhys s c) c.2).reverse

/-- The octet stores of a word store, low octet at the lower address (20_memory.md R52, R56). -/
def wordStores (addr v : Word) : List (Word × Octet) := [(addr, lo8 v), (addr + 1#16, hi8 v)]

/-- The octet stores of a write to a location under a mask (the memory row of the table of 40_operands.md R134). -/
def locStores (l : Loc) (v : Word) (m : ByteMask) : List (Word × Octet) :=
  match l, m with
  | .mem addr, .none => wordStores addr v
  | .mem addr, .keepHigh => [(addr, lo8 v)]
  | .mem addr, .keepLow => [(addr + 1#16, hi8 v)]
  | _, _ => []

/-- The state that only the system instructions, the conditionals and interrupts touch is unchanged: IA, `skipping`,
`queueing`, the queue, the EMU, `run`, and the platform's parameters. -/
def SameControl (s t : State) : Prop :=
  t.ia = s.ia ∧ t.skipping = s.skipping ∧ t.queueing = s.queueing ∧ t.queue = s.queue ∧ t.emu = s.emu ∧
    t.run = s.run ∧ t.physMap = s.physMap ∧ t.arrivals = s.arrivals ∧ t.moment = s.moment

/-- The effect of writing `v` to location `l` under mask `m` (R134), all of it: `s` is the state before the instruction,
`h` the state after its operands are handled (which differs from `s` in PC, SP and the bus trace), `t` the state after,
`ex` the value EX has when `l` is written (10_state.md R26). -/
def Wrote (s h t : State) (l : Loc) (v ex : Word) (m : ByteMask) : Prop :=
  (∀ r, t.reg r = if l = .reg r then maskMerge m (s.reg r) v else s.reg r) ∧
  t.sp = (if l = .sp then maskMerge m h.sp v else h.sp) ∧
  t.pc = (if l = .pc then maskMerge m h.pc v else h.pc) ∧
  t.ex = (if l = .ex then maskMerge m ex v else ex) ∧
  Stored s t (locStores l v m) ∧
  t.bus = deviceWrites s (locStores l v m) ++ h.bus ∧
  SameControl s t

/-- Nothing but PC, SP, the bus trace (as they are in `h`) and what `m`, `sk` say of the mask and `skipping` differs from
`s`: the frame of an instruction without a destination. -/
def OnlyHandled (s h t : State) (m : ByteMask) (sk : Bool) : Prop :=
  (∀ r, t.reg r = s.reg r) ∧ t.sp = h.sp ∧ t.pc = h.pc ∧ t.ex = s.ex ∧ Stored s t [] ∧ t.bus = h.bus ∧
    t.mask = m ∧ t.skipping = sk ∧
    t.ia = s.ia ∧ t.queueing = s.queueing ∧ t.queue = s.queue ∧ t.emu = s.emu ∧ t.run = s.run ∧
    t.physMap = s.physMap ∧ t.arrivals = s.arrivals ∧ t.moment = s.moment

end Sys2Proof.Machine
end

