-- ==== Sys2Proof/Certificates/Slice0/Obligations.lean ====
section
/-! DEFINITION. The statements for the provers, and the few words they are said in. They come from the numbered rules of
spec/. Every one holds for every operand form unless it says otherwise, and for every value of the free values of
Config.lean. "What an operand reads" and "where it lies" are the model's own `handleA`, `handleB`, `resolveA`, `resolveB`,
the functions the meanings use. -/

open Sys2Proof Sys2Proof.Machine

namespace Sys2Proof.Claims

/-- The row of a BASIC instruction: its first word is `a*1024 + b*32 + o` (R92), its cost `c` cycles (R367). -/
def BasicRow (i : Instr) (o c : Nat) (b a : Operand) : Prop :=
  encode i = BitVec.ofNat 16 (a.code.toNat * 1024 + b.code.toNat % 32 * 32 + o) ∧ opcodeCycles i = some c

/-- The row of a SPECIAL instruction: its first word is `a*1024 + o*32` (R93), its cost `c` cycles (R367). -/
def SpecialRow (i : Instr) (o c : Nat) (a : Operand) : Prop :=
  encode i = BitVec.ofNat 16 (a.code.toNat * 1024 + o * 32) ∧ opcodeCycles i = some c

/-- The row of an IMPLIED instruction: its first word is `v*32768 + o*1024` (R94), its cost `c` cycles (R367). -/
def ImpliedRow (i : Instr) (o c : Nat) (v : Bool) : Prop :=
  encode i = BitVec.ofNat 16 ((if v then 32768 else 0) + o * 1024) ∧ opcodeCycles i = some c

/-- The instruction completes by writing `r` to its destination b under the pending mask, EX being `ex` at that moment
(`s.ex` for an instruction that does not write EX); the mask is used up, and nothing else of the CPU or of memory changes. -/
def CompletesB (i : Instr) (b a : Operand) (s : State) (r ex : Word) : Prop :=
  ∃ t, exec i s = .next t ∧ t.mask = .none ∧
    Wrote s (handleB b (handleA a s).state).state t (handleB b (handleA a s).state).loc r ex s.mask

/-- The instruction completes by writing `r` to its operand a, which it has read, under the pending mask. -/
def CompletesA (i : Instr) (a : Operand) (s : State) (r : Word) : Prop :=
  ∃ t, exec i s = .next t ∧ t.mask = .none ∧ Wrote s (handleA a s).state t (handleA a s).loc r s.ex s.mask

/-- The conditional completes: its operands are handled, the mask stays, and `skipping` is set unless the test holds. -/
def CompletesIf (i : Instr) (b a : Operand) (s : State) (test : Prop) [Decidable test] : Prop :=
  ∃ t, exec i s = .next t ∧
    OnlyHandled s (handleB b (handleA a s).state).state t s.mask (if test then s.skipping else true)

/-- The call completes: the return address, PC after operand a, is pushed and control goes to `target`. -/
def CompletesCall (i : Instr) (a : Operand) (s : State) (target : Word) : Prop :=
  ∃ t, exec i s = .next t ∧ t.mask = .none ∧ t.pc = target ∧ t.sp = (handleA a s).state.sp - 2#16 ∧
    (∀ r, t.reg r = s.reg r) ∧ t.ex = s.ex ∧
    Stored s t (wordStores ((handleA a s).state.sp - 2#16) (handleA a s).state.pc) ∧
    t.bus = deviceWrites s (wordStores ((handleA a s).state.sp - 2#16) (handleA a s).state.pc) ++
      (handleA a s).state.bus ∧
    SameControl s t

/-- The instruction completes with operand a handled and nothing else changed but what `s'` says: `s'` is the state before
with the instruction's own effect on the control state. -/
def CompletesControl (i : Instr) (a : Operand) (s s' : State) : Prop :=
  ∃ t, exec i s = .next t ∧ OnlyHandled s' (handleA a s).state t .none s.skipping

/-- RAM or ROM answers the virtual address. -/
def PlainAt (s : State) (va : Word) : Prop :=
  kindAt s.physMap (translate s.emu va) = .ram ∨ kindAt s.physMap (translate s.emu va) = .rom

/-- RAM answers the virtual address. -/
def RamAt (s : State) (va : Word) : Prop := kindAt s.physMap (translate s.emu va) = .ram

/-- The octet of RAM or ROM at a virtual address. -/
def octetAt (s : State) (va : Word) : Octet := s.mem.read (translate s.emu va).toNat

/-- `nw` of R95, on the number of an operand code. -/
def nw (code : Nat) : Nat :=
  if (0x10 ≤ code ∧ code ≤ 0x17) ∨ code = 0x1a ∨ code = 0x1e ∨ code = 0x1f then 1 else 0

/-- One of the eight conditional instructions (R201). -/
def IsConditional : Instr → Prop
  | .ifb _ _ | .ifc _ _ | .ife _ _ | .ifn _ _ | .ifg _ _ | .ifa _ _ | .ifl _ _ | .ifu _ _ => True
  | _ => False

/-- An instruction with EX as a side effect: exactly the eleven of 10_state.md R25. -/
def HasExtraOutput : Instr → Prop
  | .add _ _ | .sub _ _ | .mul _ _ | .mli _ _ | .div _ _ | .dvi _ _ | .shr _ _ | .asr _ _ | .shl _ _ | .adx _ _
  | .sbx _ _ => True
  | _ => False

/-- An instruction whose destination operand (45_implied.md R275) is EX itself. -/
def DestinationIsEx : Instr → Prop
  | .set .ex _ | .mod .ex _ | .mdi .ex _ | .and .ex _ | .bor .ex _ | .xor .ex _ | .sti .ex _ | .std .ex _ | .hwr _ .ex
  | .neg .ex | .iag .ex | .mmr .ex | .sxb .ex | .swp .ex => True
  | _ => False

/-- A blank opcode number: the tables give it no cost. -/
def IsReserved (i : Instr) : Prop := opcodeCycles i = none

/-- The blank opcode numbers of the tables, 2 BASIC, 18 SPECIAL and 28 IMPLIED (R101). -/
def reservedInstrs (b a : Operand) (v : Bool) : List Instr :=
  [.reservedBasic18 b a, .reservedBasic19 b a,
    .reservedSpecial03 a, .reservedSpecial04 a, .reservedSpecial06 a, .reservedSpecial0d a, .reservedSpecial10 a,
    .reservedSpecial11 a, .reservedSpecial12 a, .reservedSpecial13 a, .reservedSpecial16 a, .reservedSpecial17 a,
    .reservedSpecial18 a, .reservedSpecial19 a, .reservedSpecial1a a, .reservedSpecial1b a, .reservedSpecial1c a,
    .reservedSpecial1d a, .reservedSpecial1e a, .reservedSpecial1f a,
    .reservedImplied02 v, .reservedImplied03 v, .reservedImplied05 v, .reservedImplied06 v, .reservedImplied07 v,
    .reservedImplied08 v, .reservedImplied09 v, .reservedImplied0a v, .reservedImplied0b v, .reservedImplied0c v,
    .reservedImplied0d v, .reservedImplied0e v, .reservedImplied0f v, .reservedImplied11 v, .reservedImplied12 v,
    .reservedImplied13 v, .reservedImplied14 v, .reservedImplied15 v, .reservedImplied16 v, .reservedImplied17 v,
    .reservedImplied18 v, .reservedImplied19 v, .reservedImplied1a v, .reservedImplied1b v, .reservedImplied1c v,
    .reservedImplied1d v, .reservedImplied1e v, .reservedImplied1f v]

end Sys2Proof.Claims

open Sys2Proof.Claims

/-! ## Encoding -/

/-- Words written out from the spec's formats (95_test_vectors.md section 2.1) decode to what they stand for. -/
def Obligations.FirstWordsOfTheSpecDecode : Prop :=
  decode 0x7c01#16 = .set (.reg .a) .litNext ∧ decode 0x7fc1#16 = .set .absNext .litNext ∧
  decode 0x4be1#16 = .set .litNext (.indNext .c) ∧ decode 0x6b41#16 = .set .pick .pick ∧
  decode 0x7bde#16 = .sti .absNext .absNext ∧ decode 0xffff#16 = .std .litNext (.inline 0x1f#5) ∧
  decode 0x7c19#16 = .reservedBasic19 (.reg .a) .litNext ∧ decode 0x0020#16 = .jsr (.reg .a) ∧
  decode 0x8560#16 = .rfi (.inline 1#5) ∧ decode 0x7e00#16 = .reservedSpecial10 .litNext ∧
  decode 0x0000#16 = .hlt false ∧ decode 0x9000#16 = .byt true ∧ decode 0xc000#16 = .skp true ∧
  decode 0xfc00#16 = .reservedImplied1f true

/-- Decoding inverts encoding: every well-formed instruction, with every operand at every code its field admits. -/
def Obligations.DecodeInvertsEncode : Prop := ∀ i : Instr, i.wf = true → decode (encode i) = i

/-- The formats partition the 65536 first words: each is the encoding of exactly the well-formed instruction it
decodes to (30_encoding.md R94). -/
def Obligations.EveryFirstWordIsOneInstruction : Prop :=
  ∀ w : Word, (decode w).wf = true ∧ encode (decode w) = w ∧ ∀ i : Instr, i.wf = true → encode i = w → i = decode w

/-- The length of every instruction, defined or reserved, from the format and the operand codes (R95). -/
def Obligations.LengthFollowsFromFirstWord : Prop :=
  ∀ w : Word, (decode w).length = wordLength w ∧
    wordLength w =
      if w.toNat % 32 ≠ 0 then 1 + nw (w.toNat / 1024) + nw (w.toNat / 32 % 32)
      else if w.toNat / 32 % 32 ≠ 0 then 1 + nw (w.toNat / 1024)
      else 1

/-- The conditional instructions are exactly the BASIC first words with opcode 0x10 to 0x17 (R201). -/
def Obligations.ConditionalsAreOpcodesTenToSeventeen : Prop :=
  ∀ w : Word, (IsConditional (decode w) ↔ 0x10 ≤ w.toNat % 32 ∧ w.toNat % 32 ≤ 0x17) ∧
    (isConditionalWord w = true ↔ IsConditional (decode w))

/-! ## Reset and the invariant -/

/-- What reset leaves, for every choice of the parameters RESET_GPR, EMU_RESET, PHYS_MAP and HwInterrupt: the values of R38,
which are the spec's own decisions D18 and D19 (log 3), with the source's default of EMU_RESET. The model's own field `bus` is
empty (log 6); the messages that arrive are any (log 7). -/
def Obligations.ResetLeavesTheStatedValues : Prop :=
  (∀ (g : Gpr) (ex : Word) (emu : Vector PageNo 16) (pm : List Region) (m : Memory)
      (arrivals : List (List Word)),
    let s := State.resetWith g ex emu pm m arrivals
    s.pc = 0x0000#16 ∧ s.sp = 0x0000#16 ∧ s.ia = 0x0000#16 ∧ s.gpr = g ∧ s.ex = ex ∧ s.skipping = false ∧
      s.queueing = false ∧ s.mask = .none ∧ s.queue = [] ∧ s.emu = emu ∧ s.run = .running ∧ s.mem = m ∧
      s.physMap = pm ∧ s.bus = [] ∧ s.arrivals = arrivals) ∧
  (∃ (g : Gpr) (ex : Word) (m : Memory) (arrivals : List (List Word)),
    State.reset = State.resetWith g ex Config.emuReset [] m arrivals) ∧
  ∀ b : BlockNo, emuPage Config.emuReset b = b.setWidth 12

/-- The reset state meets the invariant (of the model's own canonical memory, log 1, and of R34 and R273). -/
def Obligations.ResetMeetsTheInvariant : Prop := State.reset.Inv

/-- Every step keeps the invariant: memory stays canonical, the queue never holds more than 256 messages, and a sleeping
CPU has no mask pending and is not skipping. -/
def Obligations.StepKeepsTheInvariant : Prop := ∀ s t : State, s.Inv → step s = .next t → t.Inv

/-! ## Memory -/

/-- `Translate(va)` is `p * 0x1000 + va[11:0]` for the page p of block va[15:12] (R62). -/
def Obligations.TranslateUsesTheBlocksPage : Prop :=
  ∀ (e : Vector PageNo 16) (va : Word),
    (translate e va).toNat = (emuPage e (BitVec.ofNat 4 (va.toNat / 4096))).toNat * 0x1000 + va.toNat % 4096

/-- A word stored to RAM reads back, its low octet at the address and its high octet at the next, and no other octet
changes, at every address, odd, at the end of a block or at 0xffff (R52, R54, R56, which rest on the spec's own decisions D1 and D3,
log 3). -/
def Obligations.WordReadsBackFromRam : Prop :=
  ∀ (va v : Word) (s : State), RamAt s va → RamAt s (va + 1#16) →
    let t := writeWord va v s
    readWord va t = (v, t) ∧ octetAt t va = lo8 v ∧ octetAt t (va + 1#16) = hi8 v ∧
      ∀ pa : PhysAddr, pa ≠ translate s.emu va → pa ≠ translate s.emu (va + 1#16) →
        t.mem.read pa.toNat = s.mem.read pa.toNat

/-- Two blocks mapped to one page name the same cells, and a write through one is seen by a read through the other (R64). -/
def Obligations.AliasedBlocksShareCells : Prop :=
  ∀ (s : State) (b c : BlockNo) (off : BitVec 12) (v : Octet), emuPage s.emu b = emuPage s.emu c →
    translate s.emu (b ++ off) = translate s.emu (c ++ off) ∧
      (RamAt s (b ++ off) → (readOctet (c ++ off) (writeOctet (b ++ off) v s)).1 = v)

/-- Memory accesses by what answers the address. An octet of RAM or ROM is read and nothing else happens (R53). The rest is
the model's choice for what the spec leaves to PHYS_MAP (U7; logs 5, 16): a device or an empty address answers the free value of
the trace and the address, and the read is added to the trace; ROM and empty addresses ignore a write, a device sees it, and
only RAM stores it. A word is two octet accesses, the low octet first (R54, R56; the spec's own decisions D1, D30, log 3). -/
def Obligations.MemoryAccessesFollowWhatAnswers : Prop :=
  ∀ (va : Word) (v : Octet) (s : State),
    (PlainAt s va → readOctet va s = (octetAt s va, s)) ∧
    (kindAt s.physMap (translate s.emu va) = .device ∨ kindAt s.physMap (translate s.emu va) = .empty →
      let answer := Config.memAnswer s.bus (translate s.emu va)
      readOctet va s = (answer, s.setBus (.memRead (translate s.emu va) answer :: s.bus))) ∧
    (let lo := readOctet va s
     let hi := readOctet (va + 1#16) lo.2
     readWord va s = (joinOctets hi.1 lo.1, hi.2)) ∧
    (∀ w : Word, writeWord va w s = writeOctet (va + 1#16) (hi8 w) (writeOctet va (lo8 w) s)) ∧
    (kindAt s.physMap (translate s.emu va) = .rom ∨ kindAt s.physMap (translate s.emu va) = .empty →
      writeOctet va v s = s) ∧
    (kindAt s.physMap (translate s.emu va) = .device →
      writeOctet va v s = s.setBus (.memWrite (translate s.emu va) v :: s.bus)) ∧
    (RamAt s va → writeOctet va v s = s.setMem (s.mem.write (translate s.emu va).toNat v))

/-- The model's canonical form (log 1): two canonical memories that read alike are equal data. -/
def Obligations.CanonicalMemoriesThatReadAlikeAreEqual : Prop :=
  ∀ m n : Memory, m.wf = true → n.wf = true → (∀ a : Nat, m.read a = n.read a) → m = n

/-! ## Operands -/

/-- `Fetch16()` (R57): the word at PC, then PC up by two; from RAM or ROM, the octets at PC and PC + 1 and nothing else. -/
def Obligations.FetchReadsTheWordAtPc : Prop :=
  ∀ s : State,
    fetch16 s = ((readWord s.pc s).1, (readWord s.pc s).2.setPc (s.pc + 2#16)) ∧
    (PlainAt s s.pc → PlainAt s (s.pc + 1#16) →
      fetch16 s = (joinOctets (octetAt s (s.pc + 1#16)) (octetAt s s.pc), s.setPc (s.pc + 2#16)))

/-- The table of `ResolveA(code)` (R121), and what handling operand a then answers: the location it resolves to, the word
`Read` gives there (R120, R133), and the state after that read. POP's step of 2 is the spec's own decision D2 (log 3). -/
def Obligations.OperandATable : Prop :=
  ∀ s : State,
    (∀ o : Operand,
      let p := resolveA o s
      let w := readLoc p.1 p.2
      handleA o s = ⟨p.1, w.1, w.2⟩) ∧
    (∀ r : Reg,
      resolveA (operandOfCode (0x00#6 + r.code.setWidth 6)) s = (.reg r, s) ∧
      resolveA (operandOfCode (0x08#6 + r.code.setWidth 6)) s = (.mem (s.reg r), s) ∧
      resolveA (operandOfCode (0x10#6 + r.code.setWidth 6)) s =
        (.mem (s.reg r + (fetch16 s).1), (fetch16 s).2)) ∧
    resolveA (operandOfCode 0x18#6) s = (.mem s.sp, s.setSp (s.sp + 2#16)) ∧
    resolveA (operandOfCode 0x19#6) s = (.mem s.sp, s) ∧
    resolveA (operandOfCode 0x1a#6) s = (.mem (s.sp + (fetch16 s).1), (fetch16 s).2) ∧
    resolveA (operandOfCode 0x1b#6) s = (.sp, s) ∧
    resolveA (operandOfCode 0x1c#6) s = (.pc, s) ∧
    resolveA (operandOfCode 0x1d#6) s = (.ex, s) ∧
    resolveA (operandOfCode 0x1e#6) s = (.mem (fetch16 s).1, (fetch16 s).2) ∧
    resolveA (operandOfCode 0x1f#6) s = (.lit (fetch16 s).1, (fetch16 s).2) ∧
    ∀ code : BitVec 6, 0x20 ≤ code.toNat →
      resolveA (operandOfCode code) s = (.lit (BitVec.ofInt 16 ((code.toNat : Int) - 0x21)), s)

/-- The table of `ResolveB(code)`: as in a, but for 0x18, which is PUSH (R122); and what handling operand b then answers, as
for operand a (R120, R133). PUSH's step of 2 is the spec's own decision D2 (log 3). -/
def Obligations.OperandBTable : Prop :=
  ∀ s : State,
    (∀ o : Operand,
      let p := resolveB o s
      let w := readLoc p.1 p.2
      handleB o s = ⟨p.1, w.1, w.2⟩) ∧
    ∀ code : BitVec 6, code.toNat < 0x20 →
      resolveB (operandOfCode code) s =
        if code = 0x18#6 then (.mem (s.sp - 2#16), s.setSp (s.sp - 2#16)) else resolveA (operandOfCode code) s

/-- The tables of `Read(loc)`, 16 bits whatever mask is pending (R133), and of `Write(loc, v, m)` (R134). What is masked, and
that a masked memory write is one octet write, are the spec's own decisions D15 and D16 (log 3). -/
def Obligations.ReadAndWriteTables : Prop :=
  ∀ (s : State) (v : Word),
    (∀ r : Reg, readLoc (.reg r) s = (s.reg r, s)) ∧
    (readLoc .sp s = (s.sp, s) ∧ readLoc .pc s = (s.pc, s) ∧ readLoc .ex s = (s.ex, s)) ∧
    (∀ addr : Word, readLoc (.mem addr) s = readWord addr s) ∧ (∀ k : Word, readLoc (.lit k) s = (k, s)) ∧
    (∀ r : Reg, writeLoc (.reg r) v .none s = s.setReg r v ∧
      writeLoc (.reg r) v .keepHigh s = s.setReg r (joinOctets (hi8 (s.reg r)) (lo8 v)) ∧
      writeLoc (.reg r) v .keepLow s = s.setReg r (joinOctets (hi8 v) (lo8 (s.reg r)))) ∧
    (writeLoc .sp v .none s = s.setSp v ∧ writeLoc .pc v .none s = s.setPc v ∧ writeLoc .ex v .none s = s.setEx v) ∧
    (writeLoc .sp v .keepHigh s = s.setSp (joinOctets (hi8 s.sp) (lo8 v)) ∧
      writeLoc .pc v .keepHigh s = s.setPc (joinOctets (hi8 s.pc) (lo8 v)) ∧
      writeLoc .ex v .keepHigh s = s.setEx (joinOctets (hi8 s.ex) (lo8 v))) ∧
    (writeLoc .sp v .keepLow s = s.setSp (joinOctets (hi8 v) (lo8 s.sp)) ∧
      writeLoc .pc v .keepLow s = s.setPc (joinOctets (hi8 v) (lo8 s.pc)) ∧
      writeLoc .ex v .keepLow s = s.setEx (joinOctets (hi8 v) (lo8 s.ex))) ∧
    (∀ addr : Word, writeLoc (.mem addr) v .none s = writeWord addr v s ∧
      writeLoc (.mem addr) v .keepHigh s = writeOctet addr (lo8 v) s ∧
      writeLoc (.mem addr) v .keepLow s = writeOctet (addr + 1#16) (hi8 v) s) ∧
    ∀ (k : Word) (m : ByteMask), writeLoc (.lit k) v m s = s

/-- `Push(v)` moves SP down by two and stores the word there and nowhere else, and a `Pop()` then gives it back with SP
where it was (R137, R138, which rest on the spec's own decision D2, log 3). -/
def Obligations.PushThenPopGivesTheWordBack : Prop :=
  ∀ (v : Word) (s : State), RamAt s (s.sp - 2#16) → RamAt s (s.sp - 1#16) →
    (push v s).sp = s.sp - 2#16 ∧ Stored s (push v s) (wordStores (s.sp - 2#16) v) ∧
      pop (push v s) = (v, (push v s).setSp s.sp)

/-! ## Moves and arithmetic (41_basic_alu.md) -/

/-- SET writes a's value to b, with b not read, EX not written and its whole frame (R151). -/
def Obligations.SetWritesTheSource : Prop :=
  ∀ (b a : Operand) (s : State), BasicRow (.set b a) 0x01 1 b a ∧
    ∃ t, exec (.set b a) s = .next t ∧ t.mask = .none ∧
      Wrote s (resolveB b (handleA a s).state).2 t (resolveB b (handleA a s).state).1 (handleA a s).value s.ex s.mask

/-- STI and STD write a's value to b, and then move I and J by one, unmasked, also when b is a literal (R174, R175). -/
def Obligations.StiAndStdWriteThenMovePointers : Prop :=
  ∀ (b a : Operand) (s : State),
    BasicRow (.sti b a) 0x1e 2 b a ∧ BasicRow (.std b a) 0x1f 2 b a ∧
    ∃ u, Wrote s (resolveB b (handleA a s).state).2 u (resolveB b (handleA a s).state).1 (handleA a s).value s.ex
        s.mask ∧
      exec (.sti b a) s =
        .next (((u.setReg .i (u.reg .i + 1#16)).setReg .j (u.reg .j + 1#16)).setMask .none) ∧
      exec (.std b a) s =
        .next (((u.setReg .i (u.reg .i - 1#16)).setReg .j (u.reg .j - 1#16)).setMask .none)

/-- ADD and SUB: the sum and difference modulo 2^16, the unsigned carry and borrow in EX (R152, R153). -/
def Obligations.AddAndSubWriteResultAndCarry : Prop :=
  ∀ (b a : Operand) (s : State),
    let va := (handleA a s).value.toNat
    let vb := (handleB b (handleA a s).state).value.toNat
    (BasicRow (.add b a) 0x02 2 b a ∧
      CompletesB (.add b a) b a s (BitVec.ofNat 16 (vb + va)) (if vb + va ≤ 0xffff then 0#16 else 0x0001#16)) ∧
    (BasicRow (.sub b a) 0x03 2 b a ∧
      CompletesB (.sub b a) b a s (BitVec.ofInt 16 ((vb : Int) - (va : Int)))
        (if va ≤ vb then 0#16 else 0xffff#16))

/-- ADX and SBX: EX enters the sum as an unsigned value and then takes the overflow or underflow (R170, R171). The
unsigned reading of EX is the spec's own decision D9 (log 3). -/
def Obligations.AdxAndSbxUseAndWriteEx : Prop :=
  ∀ (b a : Operand) (s : State),
    let va := (handleA a s).value.toNat
    let vb := (handleB b (handleA a s).state).value.toNat
    (BasicRow (.adx b a) 0x1a 3 b a ∧
      CompletesB (.adx b a) b a s (BitVec.ofNat 16 (vb + va + s.ex.toNat))
        (if vb + va + s.ex.toNat ≤ 0xffff then 0#16 else 0x0001#16)) ∧
    (BasicRow (.sbx b a) 0x1b 3 b a ∧
      CompletesB (.sbx b a) b a s (BitVec.ofInt 16 ((vb : Int) - (va : Int) + (s.ex.toNat : Int)))
        (if vb + s.ex.toNat < va then 0xffff#16 else if vb + s.ex.toNat - va ≤ 0xffff then 0#16 else 0x0001#16))

/-- MUL and MLI: the low word of the 32 bit product in b, the high word in EX, unsigned and signed (R154, R155). -/
def Obligations.MultiplicationsDeliverBothWords : Prop :=
  ∀ (b a : Operand) (s : State),
    let va := (handleA a s).value
    let vb := (handleB b (handleA a s).state).value
    (BasicRow (.mul b a) 0x04 3 b a ∧
      CompletesB (.mul b a) b a s (BitVec.ofNat 16 (vb.toNat * va.toNat))
        (BitVec.ofNat 16 (vb.toNat * va.toNat / 65536))) ∧
    (BasicRow (.mli b a) 0x05 4 b a ∧
      CompletesB (.mli b a) b a s ((vb.signExtend 32 * va.signExtend 32).extractLsb' 0 16)
        ((vb.signExtend 32 * va.signExtend 32).extractLsb' 16 16))

/-- DIV: the unsigned quotient in b, the quotient of b shifted left by 16 in EX, both 0 for a zero divisor; EX is the 16 bit
binary fraction of the quotient (R156). -/
def Obligations.DivDeliversQuotientAndFraction : Prop :=
  ∀ (b a : Operand) (s : State),
    let va := (handleA a s).value
    let vb := (handleB b (handleA a s).state).value
    BasicRow (.div b a) 0x06 9 b a ∧
    CompletesB (.div b a) b a s (if va = 0#16 then 0#16 else BitVec.ofNat 16 (vb.toNat / va.toNat))
      (if va = 0#16 then 0#16 else BitVec.ofNat 16 (vb.toNat * 65536 / va.toNat)) ∧
    (va ≠ 0#16 → BitVec.ofNat 16 (vb.toNat * 65536 / va.toNat) =
      BitVec.ofNat 16 (vb.toNat % va.toNat * 65536 / va.toNat))

/-- DVI: as DIV with signed operands, both quotients rounded toward zero (R157). The rounding of the EX quotient and the wrap
of -32768 / -1 are the spec's own decision D10 (log 3). -/
def Obligations.DviRoundsBothQuotientsTowardZero : Prop :=
  ∀ (b a : Operand) (s : State),
    let va := (handleA a s).value
    let vb := (handleB b (handleA a s).state).value
    BasicRow (.dvi b a) 0x07 10 b a ∧
    CompletesB (.dvi b a) b a s (if va = 0#16 then 0#16 else BitVec.ofInt 16 (vb.toInt.tdiv va.toInt))
      (if va = 0#16 then 0#16 else BitVec.ofInt 16 ((vb.toInt * 65536).tdiv va.toInt))

/-- MOD: the unsigned remainder, 0 for a zero divisor; EX keeps its value (R158). -/
def Obligations.ModDeliversTheRemainder : Prop :=
  ∀ (b a : Operand) (s : State),
    let va := (handleA a s).value
    let vb := (handleB b (handleA a s).state).value
    BasicRow (.mod b a) 0x08 6 b a ∧
    CompletesB (.mod b a) b a s (if va = 0#16 then 0#16 else BitVec.ofNat 16 (vb.toNat % va.toNat)) s.ex

/-- MDI: the remainder of the quotient rounded toward zero, 0 for a zero divisor; EX keeps its value. The remainder is
smaller than the divisor and has the dividend's sign, or is zero (R159, with the spec's own decision D10, log 3). -/
def Obligations.MdiRemainderHasTheDividendsSign : Prop :=
  ∀ (b a : Operand) (s : State),
    let va := (handleA a s).value
    let vb := (handleB b (handleA a s).state).value
    let r : Word := if va = 0#16 then 0#16 else BitVec.ofInt 16 (vb.toInt.tmod va.toInt)
    BasicRow (.mdi b a) 0x09 7 b a ∧ CompletesB (.mdi b a) b a s r s.ex ∧
    (va ≠ 0#16 → r.toInt.natAbs < va.toInt.natAbs ∧ (r = 0#16 ∨ r.toInt.sign = vb.toInt.sign))

/-- AND, BOR and XOR: the bitwise result, EX kept (R160, R161, R162). -/
def Obligations.LogicWritesTheBitwiseResult : Prop :=
  ∀ (b a : Operand) (s : State),
    let va := (handleA a s).value
    let vb := (handleB b (handleA a s).state).value
    (BasicRow (.and b a) 0x0a 1 b a ∧ CompletesB (.and b a) b a s (vb &&& va) s.ex) ∧
    (BasicRow (.bor b a) 0x0b 1 b a ∧ CompletesB (.bor b a) b a s (vb ||| va) s.ex) ∧
    (BasicRow (.xor b a) 0x0c 1 b a ∧ CompletesB (.xor b a) b a s (vb ^^^ va) s.ex)

/-- SHR, ASR and SHL by the source's formulas over the integers, with the whole 16 bit amount (R163 to R166). The reading
of the formulas, and amounts above 16, are the spec's own decision D8 (log 3). -/
def Obligations.ShiftsFollowTheIntegerFormulas : Prop :=
  ∀ (b a : Operand) (s : State),
    let va := (handleA a s).value.toNat
    let vb := (handleB b (handleA a s).state).value
    (BasicRow (.shr b a) 0x0d 1 b a ∧
      CompletesB (.shr b a) b a s (BitVec.ofNat 16 (vb.toNat / 2 ^ va))
        (BitVec.ofNat 16 (vb.toNat * 65536 / 2 ^ va))) ∧
    (BasicRow (.asr b a) 0x0e 1 b a ∧
      CompletesB (.asr b a) b a s (BitVec.ofInt 16 (vb.toInt / 2 ^ va))
        (BitVec.ofInt 16 (vb.toInt * 65536 / 2 ^ va))) ∧
    (BasicRow (.shl b a) 0x0f 1 b a ∧
      CompletesB (.shl b a) b a s (BitVec.ofNat 16 (vb.toNat * 2 ^ va))
        (BitVec.ofNat 16 (vb.toNat * 2 ^ va / 65536)))

/-! ## Conditionals and skipping (42_conditionals.md) -/

/-- The eight tests, each with the whole frame: only operand handling and, when the test fails, `skipping` (R204 to R211). -/
def Obligations.ConditionalsSkipWhenTheTestFails : Prop :=
  ∀ (b a : Operand) (s : State),
    let va := (handleA a s).value
    let vb := (handleB b (handleA a s).state).value
    (BasicRow (.ifb b a) 0x10 2 b a ∧ CompletesIf (.ifb b a) b a s (vb &&& va ≠ 0#16)) ∧
    (BasicRow (.ifc b a) 0x11 2 b a ∧ CompletesIf (.ifc b a) b a s (vb &&& va = 0#16)) ∧
    (BasicRow (.ife b a) 0x12 2 b a ∧ CompletesIf (.ife b a) b a s (vb = va)) ∧
    (BasicRow (.ifn b a) 0x13 2 b a ∧ CompletesIf (.ifn b a) b a s (vb ≠ va)) ∧
    (BasicRow (.ifg b a) 0x14 2 b a ∧ CompletesIf (.ifg b a) b a s (vb.toNat > va.toNat)) ∧
    (BasicRow (.ifa b a) 0x15 2 b a ∧ CompletesIf (.ifa b a) b a s (vb.toInt > va.toInt)) ∧
    (BasicRow (.ifl b a) 0x16 2 b a ∧ CompletesIf (.ifl b a) b a s (vb.toNat < va.toNat)) ∧
    (BasicRow (.ifu b a) 0x17 2 b a ∧ CompletesIf (.ifu b a) b a s (vb.toInt < va.toInt))

/-- A step of a skipping CPU (R203), after the messages that arrive before it (R302): PC moves by the length of the instruction
there and nothing of it happens; a skipped conditional keeps the CPU skipping and the mask, any other instruction ends both.
That nothing of it happens is the spec's own decision D24 (log 3), one skipped instruction a step the model's (log 11), the
schedule of arrivals the model's (log 7). -/
def Obligations.SkippingMovesPcByTheLength : Prop :=
  ∀ s : State,
    let d := deliverArrivals s
    d.run = .running → d.skipping = true →
    ∃ t, step s = .next t ∧
      OnlyHandled d ((fetch16 d).2.setPc (d.pc + BitVec.ofNat 16 (2 * (decode (fetch16 d).1).length))) t
        (if isConditionalWord (fetch16 d).1 then d.mask else .none) (isConditionalWord (fetch16 d).1)

/-! ## I/O (43_io.md) -/

/-- HWW presents a's whole value at I/O address b to the bus, whatever the mask, and changes nothing else (R221).
That HWW is not masked is the spec's own decision D15 (R223, U17; log 3); that the write is an event of the trace is the
model's choice for IO_BUS (D22; log 6). -/
def Obligations.HwwSendsTheWholeWord : Prop :=
  ∀ (b a : Operand) (s : State),
    let ha := handleA a s
    let hb := handleB b ha.state
    BasicRow (.hww b a) 0x1c 3 b a ∧
    ∃ t, exec (.hww b a) s = .next t ∧
      OnlyHandled s (hb.state.setBus (.ioWrite hb.value ha.value :: hb.state.bus)) t .none s.skipping

/-- HWR writes what the bus answers at I/O address b to a, which is resolved first and not read (R222). The answer is the
free value of the I/O bus, a function of the trace and the address, and the read is an event of the trace: the model's choices
for IO_BUS (D22; logs 6, 16). That HWR's write is masked is the spec's own decision D15 (R223; log 3), that a is not read its
decision D16 (log 3). -/
def Obligations.HwrStoresTheAnswer : Prop :=
  ∀ (b a : Operand) (s : State),
    let la := resolveA a s
    let hb := handleB b la.2
    let answer := Config.ioAnswer hb.state.bus hb.value
    BasicRow (.hwr b a) 0x1d 3 b a ∧
    ∃ t, exec (.hwr b a) s = .next t ∧ t.mask = .none ∧
      Wrote s (hb.state.setBus (.ioRead hb.value answer :: hb.state.bus)) t la.1 answer s.ex s.mask

/-! ## Special instructions (44_special.md) -/

/-- JSR and BSR push the address of the next instruction; JSR goes to a, BSR to that address plus a (R231, R232).
That SP drops by 2 and the word lies there is the spec's own decision D2 (R137; log 3). -/
def Obligations.CallsPushTheReturnAddress : Prop :=
  ∀ (a : Operand) (s : State),
    (SpecialRow (.jsr a) 0x01 3 a ∧ CompletesCall (.jsr a) a s (handleA a s).value) ∧
    (SpecialRow (.bsr a) 0x02 4 a ∧
      CompletesCall (.bsr a) a s ((handleA a s).state.pc + (handleA a s).value))

/-- NEG, SXB and SWP write back the negation, the sign-extended low octet and the swapped octets (R233, R246, R247). -/
def Obligations.UnaryInstructionsWriteBack : Prop :=
  ∀ (a : Operand) (s : State),
    let va := (handleA a s).value
    (SpecialRow (.neg a) 0x05 1 a ∧ CompletesA (.neg a) a s (BitVec.ofInt 16 (0 - (va.toNat : Int)))) ∧
    (SpecialRow (.sxb a) 0x14 1 a ∧
      CompletesA (.sxb a) a s (if va.getLsbD 7 then 0xff00#16 ||| (va &&& 0x00ff#16) else va &&& 0x00ff#16)) ∧
    (SpecialRow (.swp a) 0x15 2 a ∧
      CompletesA (.swp a) a s (BitVec.ofNat 16 (va.toNat % 256 * 256 + va.toNat / 256)))

/-- HCF sets the machine on fire, and no step follows (R234, by the spec's own decision D17, log 3). -/
def Obligations.HcfCatchesFire : Prop :=
  ∀ (a : Operand) (s : State), SpecialRow (.hcf a) 0x07 421 a ∧
    ∃ t, exec (.hcf a) s = .next t ∧ t.run = .onFire ∧ step t = .fault .onFire

/-- INT appends its message to the queue and changes nothing else; on a full queue the machine catches fire (R235,
R304). That INT goes through the queue is the spec's own decision D12 (log 3). -/
def Obligations.IntEnqueuesItsMessage : Prop :=
  ∀ (a : Operand) (s : State), SpecialRow (.int a) 0x08 4 a ∧
    (s.queue.length < 256 → CompletesControl (.int a) a s (s.setQueue (s.queue ++ [(handleA a s).value]))) ∧
    (256 ≤ s.queue.length → ∃ t, exec (.int a) s = .next t ∧ t.run = .onFire)

/-- IAG writes IA to a, which is not read; IAS writes all 16 bits of a to IA, whatever the mask (R236, R237). -/
def Obligations.IagAndIasMoveIa : Prop :=
  ∀ (a : Operand) (s : State),
    (SpecialRow (.iag a) 0x09 1 a ∧
      ∃ t, exec (.iag a) s = .next t ∧ t.mask = .none ∧ Wrote s (resolveA a s).2 t (resolveA a s).1 s.ia s.ex s.mask) ∧
    (SpecialRow (.ias a) 0x0a 1 a ∧ CompletesControl (.ias a) a s (s.setIa (handleA a s).value))

/-- RFI handles a and ignores its value, turns queueing off, and pops A and then PC (R238). That a is handled is the spec's
own decision D14, that each pop moves SP by 2 (R138), so that PC lies at SP + 2 and SP ends at SP + 4, its decision D2
(log 3). -/
def Obligations.RfiPopsAThenPc : Prop :=
  ∀ (a : Operand) (s : State),
    let h := (handleA a s).state
    let first := readWord h.sp h
    let second := readWord (h.sp + 2#16) first.2
    SpecialRow (.rfi a) 0x0b 3 a ∧
    ∃ t, exec (.rfi a) s = .next t ∧
      OnlyHandled ((s.setReg .a first.1).setQueueing false)
        ((second.2.setSp (h.sp + 4#16)).setPc second.1) t .none s.skipping

/-- IAQ turns queueing on for every nonzero a and off for zero, and changes nothing else (R239). -/
def Obligations.IaqSetsQueueing : Prop :=
  ∀ (a : Operand) (s : State), SpecialRow (.iaq a) 0x0c 2 a ∧
    CompletesControl (.iaq a) a s (s.setQueueing (decide ((handleA a s).value ≠ 0#16)))

/-- MMW maps block a[3:0] to page a[15:4] and no other block (R244). -/
def Obligations.MmwMapsOneBlock : Prop :=
  ∀ (a : Operand) (s : State),
    let va := (handleA a s).value
    SpecialRow (.mmw a) 0x0e 4 a ∧
    ∃ e, CompletesControl (.mmw a) a s (s.setEmu e) ∧
      ∀ c : BlockNo, (emuPage e c).toNat = if c.toNat = va.toNat % 16 then va.toNat / 16 else (emuPage s.emu c).toNat

/-- MMR writes back the page and the number of block a[3:0], and MMW of that value restores the mapping whatever the block
was mapped to in between (R245). That the block number is written back is the spec's own decision D26 (log 3). -/
def Obligations.MmrWritesPageAndBlock : Prop :=
  ∀ (a : Operand) (s : State),
    let va := (handleA a s).value
    let r := BitVec.ofNat 16 ((emuPage s.emu (BitVec.ofNat 4 va.toNat)).toNat * 16 + va.toNat % 16)
    SpecialRow (.mmr a) 0x0f 4 a ∧ CompletesA (.mmr a) a s r ∧
    ∀ p : PageNo, emuMap (emuMap s.emu (emuBlockField va) p) (emuBlockField r) (emuPageField r) = s.emu

/-! ## Implied instructions and reserved encodings -/

/-- HLT and SLP, the same for both values of v (R271, R273). That "interrupts are enabled" means IA != 0, that HLT's message
goes through the queue, and that Halted is final are the spec's own decisions D11, D12 and D23 (logs 3, 13). -/
def Obligations.HltAndSlpComplete : Prop :=
  ∀ (v : Bool) (s : State),
    (ImpliedRow (.hlt v) 0x00 4 v ∧
      (s.ia = 0#16 → ∃ t, exec (.hlt v) s = .next t ∧ OnlyHandled (s.setRun .halted) s t .none s.skipping) ∧
      (s.ia ≠ 0#16 → s.queue.length < 256 →
        ∃ t, exec (.hlt v) s = .next t ∧ OnlyHandled (s.setQueue (s.queue ++ [0#16])) s t .none s.skipping) ∧
      (s.ia ≠ 0#16 → 256 ≤ s.queue.length → ∃ t, exec (.hlt v) s = .next t ∧ t.run = .onFire)) ∧
    (ImpliedRow (.slp v) 0x01 3 v ∧
      ∃ t, exec (.slp v) s = .next t ∧ OnlyHandled (s.setRun .sleeping) s t .none s.skipping)

/-- SKP sets `skipping`, uses a pending mask up and changes nothing else, for both values of v; and the step after it skips
the next instruction by its length: a conditional keeps the CPU skipping, any other instruction ends it (R278, R203). That
nothing of a skipped instruction happens is the spec's own decision D24 (log 3), one skipped instruction a step the model's
choice (log 11). Messages that arrive between the two change nothing of this unless they overflow the queue (R302; log 7). -/
def Obligations.SkpSkipsTheNextInstruction : Prop :=
  ∀ (v : Bool) (s : State),
    ImpliedRow (.skp v) 0x10 2 v ∧
    ∃ t, exec (.skp v) s = .next t ∧ OnlyHandled s s t .none true ∧
      ((deliverArrivals t).run = .running → ∃ u, step t = .next u ∧
        u.pc = t.pc + BitVec.ofNat 16 (2 * (decode (fetch16 t).1).length) ∧
        (u.skipping = true ↔ IsConditional (decode (fetch16 t).1)))

/-- BYT sets the mask its flag names when none is pending, and clears a pending one whatever its flag, so that two in a row
leave the state as it was (R274, R276). That the second BYT's flag does not matter is the spec's own decision D27 (log 3). -/
def Obligations.BytSetsOrClearsTheMask : Prop :=
  ∀ (v : Bool) (s : State), ImpliedRow (.byt v) 0x04 1 v ∧
    (∃ t, exec (.byt v) s = .next t ∧
      OnlyHandled s s t (if s.mask = .none then (if v then .keepHigh else .keepLow) else .none) s.skipping) ∧
    ∀ (w : Bool) (t : State), s.mask = .none → exec (.byt v) s = .next t → exec (.byt w) t = .next s

/-- Performing each of the 48 blank opcode numbers raises `ReservedOpcode(w)`: the terminal run state, and nothing else
(R101, by the spec's own decision D5, log 3; that nothing else changes is read from R354, log 18). -/
def Obligations.ReservedEncodingsRaiseTheModelFault : Prop :=
  ∀ (b a : Operand) (v : Bool) (s : State),
    ∀ i ∈ reservedInstrs b a v, IsReserved i ∧
      exec i s = .next (s.setRun (.faulted (.reservedOpcode (encode i))))

/-! ## Interrupts (60_exceptions.md) -/

/-- A trigger with IA != 0 enters the handler: queueing on, PC and then A pushed, PC from IA, A the message, and the CPU
awake; nothing else is saved or changed (R307). That a boundary triggers whenever it may is the spec's own decision D13 (R305;
log 3), that the words lie at SP - 2 and SP - 4 its decision D2 (R137; log 3). -/
def Obligations.InterruptEntrySavesPcAndA : Prop :=
  ∀ (s : State) (msg : Word) (rest : List Word), s.queue = msg :: rest → s.run = .running ∨ s.run = .sleeping →
    s.queueing = false → s.skipping = false → s.mask = .none → s.ia ≠ 0#16 →
    let t := boundary s
    let stores := wordStores (s.sp - 2#16) s.pc ++ wordStores (s.sp - 4#16) (s.reg .a)
    t.queueing = true ∧ t.queue = rest ∧ t.sp = s.sp - 4#16 ∧ Stored s t stores ∧
      t.bus = deviceWrites s stores ++ s.bus ∧ t.pc = s.ia ∧ t.reg .a = msg ∧ t.run = .running ∧
      (∀ r : Reg, r ≠ .a → t.reg r = s.reg r) ∧ t.ex = s.ex ∧ t.ia = s.ia ∧ t.skipping = s.skipping ∧
      t.mask = s.mask ∧ t.emu = s.emu ∧ t.physMap = s.physMap ∧ t.arrivals = s.arrivals ∧ t.moment = s.moment

/-- A trigger with IA = 0 discards the message and changes nothing else (R306). -/
def Obligations.TriggerWithIaZeroDiscardsTheMessage : Prop :=
  ∀ (s : State) (msg : Word) (rest : List Word), s.queue = msg :: rest → s.run = .running ∨ s.run = .sleeping →
    s.queueing = false → s.skipping = false → s.mask = .none → s.ia = 0#16 → boundary s = s.setQueue rest

/-- No message leaves the queue while queueing is on, while skipping or with a mask pending (R305, R321; the trigger rule
is the spec's own decision D13, log 3). -/
def Obligations.MessagesAreHeldBack : Prop :=
  ∀ s : State, s.queueing = true ∨ s.skipping = true ∨ s.mask ≠ .none ∨ s.queue = [] → boundary s = s

/-- RFI restores exactly what interrupt entry saved: on a stack in RAM the interrupted program's registers, PC, SP and EX
are back, queueing is off, and only the four octets below its stack differ (R307, R311). That those are the octets SP - 1 to
SP - 4, each push and pop moving SP by 2 (R137, R138), is the spec's own decision D2 (log 3). -/
def Obligations.RfiRestoresWhatEntrySaved : Prop :=
  ∀ (s : State) (msg : Word) (a : Operand), (∃ r, a = .reg r) ∨ (∃ k, a = .inline k) →
    RamAt s (s.sp - 1#16) → RamAt s (s.sp - 2#16) → RamAt s (s.sp - 3#16) → RamAt s (s.sp - 4#16) →
    ∃ t, exec (.rfi a) (enterInterrupt msg s) = .next t ∧ (∀ r, t.reg r = s.reg r) ∧ t.pc = s.pc ∧ t.sp = s.sp ∧
      t.ex = s.ex ∧ t.ia = s.ia ∧ t.queueing = false ∧ t.queue = s.queue ∧ t.emu = s.emu ∧ t.bus = s.bus ∧
      t.skipping = s.skipping ∧ t.run = .running ∧ t.mask = .none ∧ t.physMap = s.physMap ∧
      t.arrivals = s.arrivals ∧ t.moment = s.moment ∧
      ∀ pa : PhysAddr, (∀ k : Word, 1 ≤ k.toNat → k.toNat ≤ 4 → pa ≠ translate s.emu (s.sp - k)) →
        t.mem.read pa.toNat = s.mem.read pa.toNat

/-- Enqueue appends at the tail while fewer than 256 messages are held, and otherwise sets the machine on fire (R303, R304,
by the spec's own decisions D12 and D17, log 3). -/
def Obligations.EnqueueAppendsOrCatchesFire : Prop :=
  ∀ (msg : Word) (s : State),
    (s.queue.length < 256 → enqueue msg s = s.setQueue (s.queue ++ [msg])) ∧
    (256 ≤ s.queue.length → enqueue msg s = s.setRun .onFire)

/-- Hardware messages that arrive before a step are enqueued before it, in their order (R302, by the model's schedule of
arrivals, log 7): at a moment the schedule does not fix, the free value says which arrive, any number of them, and the next
such moment is another; a moment without messages only passes; a message that the queue has room for is enqueued and the rest
of its moment follows; a message that finds 256 queued sets the machine on fire, and the CPU does nothing more in that step
(R304, the spec's own decision D17, log 3; log 10). -/
def Obligations.HardwareMessagesAreEnqueuedBeforeTheStep : Prop :=
  ∀ s : State,
    (s.arrivals = [] →
      let t := (s.setMoment (s.moment + 1)).setArrivals [Config.hwMessages s.bus s.moment]
      deliverArrivals s = deliverArrivals t ∧ step s = step t) ∧
    (∀ later : List (List Word), s.arrivals = [] :: later → deliverArrivals s = s.setArrivals later) ∧
    ∀ (msg : Word) (now : List Word) (later : List (List Word)), s.arrivals = (msg :: now) :: later →
      (s.queue.length < 256 →
        let t := (s.setQueue (s.queue ++ [msg])).setArrivals (now :: later)
        deliverArrivals s = deliverArrivals t ∧ step s = step t) ∧
      (256 ≤ s.queue.length →
        deliverArrivals s = (s.setArrivals later).setRun .onFire ∧
        (s.run = .running ∨ s.run = .sleeping → step s = .next ((s.setArrivals later).setRun .onFire)))

/-! ## Rules of the whole machine -/

/-- Performing an instruction leaves Running only by its named events: SLP, HLT with IA = 0, HCF, an overflowing INT or HLT, and a reserved
encoding (R35, R300; what the events are is the spec's own decisions D5, D11, D17, log 3). -/
def Obligations.RunStateChangesOnlyByNamedEvents : Prop :=
  ∀ (i : Instr) (s t : State), s.run = .running → exec i s = .next t →
    t.run = .running ∨ (t.run = .sleeping ∧ ∃ v, i = .slp v) ∨
    (t.run = .halted ∧ s.ia = 0#16 ∧ ∃ v, i = .hlt v) ∨
    (t.run = .onFire ∧ ((∃ a, i = .hcf a) ∨
      (256 ≤ s.queue.length ∧ ((∃ a, i = .int a) ∨ (s.ia ≠ 0#16 ∧ ∃ v, i = .hlt v))))) ∨
    (t.run = .faulted (.reservedOpcode (encode i)) ∧ IsReserved i)

/-- IA is written only by IAS, the EMU only by MMW, `queueing` only by IAQ and RFI, the queue only by INT and HLT, `skipping`
only by the conditionals and SKP, and no instruction touches the platform's parameters (R27, R28, R31, R32, R34). -/
def Obligations.ControlStateHasOnlyItsWriters : Prop :=
  ∀ (i : Instr) (s t : State), exec i s = .next t →
    (t.ia ≠ s.ia → ∃ a, i = .ias a) ∧ (t.emu ≠ s.emu → ∃ a, i = .mmw a) ∧
    (t.queueing ≠ s.queueing → ∃ a, i = .iaq a ∨ i = .rfi a) ∧
    (t.queue ≠ s.queue → (∃ a, i = .int a) ∨ ∃ v, i = .hlt v) ∧
    (t.skipping ≠ s.skipping → IsConditional i ∨ ∃ v, i = .skp v) ∧
    t.physMap = s.physMap ∧ t.arrivals = s.arrivals ∧ t.moment = s.moment

/-- EX is written only by the eleven instructions with extra output, by an instruction whose destination is EX, and by HCF
(R25). -/
def Obligations.ExHasOnlyItsWriters : Prop :=
  ∀ (i : Instr) (s t : State), exec i s = .next t → t.ex ≠ s.ex →
    HasExtraOutput i ∨ DestinationIsEx i ∨ ∃ a, i = .hcf a

/-- A pending mask is left alone by every conditional, and used up by every other defined instruction but BYT (R212, R275,
R277). -/
def Obligations.MaskLivesUntilANonConditional : Prop :=
  ∀ (i : Instr) (s t : State), exec i s = .next t →
    (IsConditional i → t.mask = s.mask) ∧
    (¬IsConditional i → ¬IsReserved i → (∀ v, i ≠ .byt v) → t.mask = .none)

/-! ## The step -/

/-- A step runs the decoded instruction: after the messages that arrive before it (R302, log 7), with nothing to trigger or
skip, when the octets at PC are the first word of a well-formed instruction, the step is that instruction's meaning with PC
past the word (R354). -/
def Obligations.StepRunsTheDecodedInstruction : Prop :=
  ∀ (i : Instr) (s : State), i.wf = true →
    let d := deliverArrivals s
    d.run = .running → boundary d = d → d.skipping = false →
    ((fetch16 d).1 = encode i → step s = exec i (fetch16 d).2) ∧
    (PlainAt d d.pc → PlainAt d (d.pc + 1#16) → octetAt d d.pc = lo8 (encode i) →
      octetAt d (d.pc + 1#16) = hi8 (encode i) → step s = exec i (d.setPc (d.pc + 2#16)))

/-- A step with a message to trigger, queued before or just arrived (R302, log 7), runs, in one step, the first instruction
after the trigger: the handler's, or the interrupted program's when IA = 0 (R305, the spec's own decision D13, log 3; R354;
the granularity is the model's, log 11). -/
def Obligations.StepTriggersThenRunsOneInstruction : Prop :=
  ∀ (i : Instr) (s : State), i.wf = true →
    let e := boundary (deliverArrivals s)
    e.run = .running → e.skipping = false → (fetch16 e).1 = encode i → step s = exec i (fetch16 e).2

/-- A CPU still asleep after the arriving messages and the boundary does nothing more in that step (R273): with IA = 0 a
queued message is discarded and the CPU sleeps on (R306), with nothing to trigger only the moment passes. No step leaves a
terminal run state (R354, R357). The final states, and what wakes a sleeper, are the spec's own decisions D17 and D23 (log 3),
the schedule of arrivals the model's (log 7). -/
def Obligations.SleepStuttersAndTerminalStatesStop : Prop :=
  ∀ s : State,
    ((boundary (deliverArrivals s)).run = .sleeping → step s = .next (boundary (deliverArrivals s))) ∧
    (∀ later : List (List Word), s.run = .sleeping → s.arrivals = [] :: later →
      (∀ (msg : Word) (rest : List Word), s.queue = msg :: rest → s.queueing = false → s.skipping = false →
        s.mask = .none → s.ia = 0#16 → step s = .next ((s.setArrivals later).setQueue rest)) ∧
      (boundary s = s → step s = .next (s.setArrivals later))) ∧
    (s.run = .halted → step s = .fault .halted) ∧ (s.run = .onFire → step s = .fault .onFire) ∧
    ∀ reason, s.run = .faulted reason → step s = .fault (.faulted reason)

/-! ## Cycle counts (informative) -/

/-- Column C of the Values table (R139) and the two worked costs of R367. -/
def Obligations.OperandCostsAsPrinted : Prop :=
  (∀ code : BitVec 6, operandCycles (operandOfCode code) =
    if code.toNat < 0x08 then 0 else if code.toNat < 0x10 then 1 else if code.toNat < 0x18 then 2
    else if code.toNat = 0x18 ∨ code.toNat = 0x19 then 1 else if code.toNat = 0x1a then 2
    else if code.toNat < 0x1e then 0 else if code.toNat = 0x1e then 2 else if code.toNat = 0x1f then 1 else 0) ∧
  performCycles 0x0000#16 false 0 0 (.set .absNext (.reg .a)) = some 3 ∧
  performCycles 0x0000#16 true 0 0 (.ife (.reg .a) (.inline 2#5)) = some 3
end

