-- ==== Sys2Proof/Laws/Encoding.lean ====
section
/-! SUPPORT. The bit fields of an encoded first word, and the operand codes. -/

namespace Sys2Proof

@[simp] theorem regOfCode_code (r : Reg) : regOfCode r.code = r := by cases r <;> rfl

theorem code_regOfCode (c : BitVec 3) : (regOfCode c).code = c := by revert c; decide

/-- Every operand's code reads back as the operand (40_operands.md R121). -/
@[simp] theorem operandOfCode_code (o : Operand) : operandOfCode o.code = o := by
  cases o with
  | reg r => cases r <;> rfl
  | ind r => cases r <;> rfl
  | indNext r => cases r <;> rfl
  | inline k => revert k; decide
  | _ => rfl

theorem code_operandOfCode (c : BitVec 6) : (operandOfCode c).code = c := by revert c; decide

/-- The 5 bit b field keeps the code of an operand that may stand there (R122). -/
theorem code_setWidth {o : Operand} (h : o.wfB = true) : (o.code.setWidth 5).setWidth 6 = o.code := by
  cases o with
  | reg r => cases r <;> rfl
  | ind r => cases r <;> rfl
  | indNext r => cases r <;> rfl
  | inline k => simp [Operand.wfB] at h
  | _ => rfl

/-- `nw` of a code is `nw` of its operand (30_encoding.md R95). -/
theorem codeNextWords_code (o : Operand) : codeNextWords o.code = o.nextWords := by
  cases o with
  | reg r => cases r <;> rfl
  | ind r => cases r <;> rfl
  | indNext r => cases r <;> rfl
  | inline k => revert k; decide
  | _ => rfl

section
variable (o : BitVec 5) (b a : Operand) (v : Bool)

@[simp] theorem basicField_basicWord : basicField (basicWord o b a) = o := by
  rw [basicField, basicWord, BitVec.extractLsb'_append_eq_of_add_le (by decide)]; simp

@[simp] theorem midField_basicWord : midField (basicWord o b a) = b.code.setWidth 5 := by
  rw [midField, basicWord, BitVec.append_assoc, BitVec.extractLsb'_cast, BitVec.extractLsb'_append_eq_of_add_le (by decide),
    BitVec.extractLsb'_append_eq_of_le (by decide)]
  simp

@[simp] theorem aField_basicWord : aField (basicWord o b a) = a.code := by
  rw [aField, basicWord, BitVec.append_assoc, BitVec.extractLsb'_cast, BitVec.extractLsb'_append_eq_of_le (by decide)]
  simp

@[simp] theorem basicField_specialWord : basicField (specialWord o a) = 0#5 := by
  rw [basicField, specialWord, BitVec.extractLsb'_append_eq_of_add_le (by decide)]; simp

@[simp] theorem midField_specialWord : midField (specialWord o a) = o := by
  rw [midField, specialWord, BitVec.append_assoc, BitVec.extractLsb'_cast,
    BitVec.extractLsb'_append_eq_of_add_le (by decide), BitVec.extractLsb'_append_eq_of_le (by decide)]
  simp

@[simp] theorem aField_specialWord : aField (specialWord o a) = a.code := by
  rw [aField, specialWord, BitVec.append_assoc, BitVec.extractLsb'_cast, BitVec.extractLsb'_append_eq_of_le (by decide)]
  simp

@[simp] theorem basicField_impliedWord : basicField (impliedWord o v) = 0#5 := by
  revert o v; decide

@[simp] theorem midField_impliedWord : midField (impliedWord o v) = 0#5 := by
  revert o v; decide

@[simp] theorem impliedField_impliedWord : impliedField (impliedWord o v) = o := by
  revert o v; decide

@[simp] theorem vField_impliedWord : vField (impliedWord o v) = v := by
  revert o v; decide

end

/-- The length of a BASIC instruction from its first word (R95). -/
theorem wordLength_basicWord {o : BitVec 5} {b a : Operand} (ho : o ≠ 0#5) (hb : b.wfB = true) :
    wordLength (basicWord o b a) = 1 + a.nextWords + b.nextWords := by
  simp [wordLength, ho, code_setWidth hb, codeNextWords_code]

/-- The length of a SPECIAL instruction from its first word (R95). -/
theorem wordLength_specialWord {o : BitVec 5} (a : Operand) (ho : o ≠ 0#5) :
    wordLength (specialWord o a) = 1 + a.nextWords := by
  simp [wordLength, ho, codeNextWords_code]

/-- The length of an IMPLIED instruction from its first word (R95). -/
theorem wordLength_impliedWord (o : BitVec 5) (v : Bool) : wordLength (impliedWord o v) = 1 := by
  simp [wordLength]

/-- A BASIC first word decodes by its opcode field (30_encoding.md R92). -/
theorem decode_basicWord {o : BitVec 5} {b : Operand} (a : Operand) (ho : o ≠ 0#5) (hb : b.wfB = true) :
    decode (basicWord o b a) = decodeBasic o b a := by
  simp [decode, ho, code_setWidth hb]

/-- A SPECIAL first word decodes by its opcode field (R93). -/
theorem decode_specialWord {o : BitVec 5} (a : Operand) (ho : o ≠ 0#5) :
    decode (specialWord o a) = decodeSpecial o a := by
  simp [decode, ho]

/-- An IMPLIED first word decodes by its opcode field and its flag (R94). -/
theorem decode_impliedWord (o : BitVec 5) (v : Bool) : decode (impliedWord o v) = decodeImplied o v := by
  simp [decode]

/-- The fields of a word put back together are the word. -/
theorem basicWord_fields (w : Word) :
    basicWord (basicField w) (operandOfCode ((midField w).setWidth 6)) (operandOfCode (aField w)) = w := by
  have h : ∀ c : BitVec 5, (c.setWidth 6).setWidth 5 = c := by decide
  rw [basicWord, code_operandOfCode, code_operandOfCode, h, basicField, midField, aField,
    BitVec.extractLsb'_append_extractLsb'_eq_extractLsb' (by decide),
    BitVec.extractLsb'_append_extractLsb'_eq_extractLsb' (by decide)]
  simp

end Sys2Proof
end

