-- ==== Sys2Proof/Laws/State.lean ====
section
/-! SUPPORT. One lemma per field per update of State, true by rfl, so that no proof unfolds a record update; the laws of the
general registers. -/

namespace Sys2Proof.Machine

section
variable (s : State) (v : Gpr)
@[simp] theorem State.setGpr_gpr : (s.setGpr v).gpr = v := rfl
@[simp] theorem State.setGpr_pc : (s.setGpr v).pc = s.pc := rfl
@[simp] theorem State.setGpr_sp : (s.setGpr v).sp = s.sp := rfl
@[simp] theorem State.setGpr_ex : (s.setGpr v).ex = s.ex := rfl
@[simp] theorem State.setGpr_ia : (s.setGpr v).ia = s.ia := rfl
@[simp] theorem State.setGpr_skipping : (s.setGpr v).skipping = s.skipping := rfl
@[simp] theorem State.setGpr_queueing : (s.setGpr v).queueing = s.queueing := rfl
@[simp] theorem State.setGpr_mask : (s.setGpr v).mask = s.mask := rfl
@[simp] theorem State.setGpr_queue : (s.setGpr v).queue = s.queue := rfl
@[simp] theorem State.setGpr_emu : (s.setGpr v).emu = s.emu := rfl
@[simp] theorem State.setGpr_run : (s.setGpr v).run = s.run := rfl
@[simp] theorem State.setGpr_mem : (s.setGpr v).mem = s.mem := rfl
@[simp] theorem State.setGpr_physMap : (s.setGpr v).physMap = s.physMap := rfl
@[simp] theorem State.setGpr_bus : (s.setGpr v).bus = s.bus := rfl
@[simp] theorem State.setGpr_arrivals : (s.setGpr v).arrivals = s.arrivals := rfl
@[simp] theorem State.setGpr_moment : (s.setGpr v).moment = s.moment := rfl
@[simp] theorem State.setGpr_self : s.setGpr s.gpr = s := rfl
end

section
variable (s : State) (v : Word)
@[simp] theorem State.setPc_gpr : (s.setPc v).gpr = s.gpr := rfl
@[simp] theorem State.setPc_pc : (s.setPc v).pc = v := rfl
@[simp] theorem State.setPc_sp : (s.setPc v).sp = s.sp := rfl
@[simp] theorem State.setPc_ex : (s.setPc v).ex = s.ex := rfl
@[simp] theorem State.setPc_ia : (s.setPc v).ia = s.ia := rfl
@[simp] theorem State.setPc_skipping : (s.setPc v).skipping = s.skipping := rfl
@[simp] theorem State.setPc_queueing : (s.setPc v).queueing = s.queueing := rfl
@[simp] theorem State.setPc_mask : (s.setPc v).mask = s.mask := rfl
@[simp] theorem State.setPc_queue : (s.setPc v).queue = s.queue := rfl
@[simp] theorem State.setPc_emu : (s.setPc v).emu = s.emu := rfl
@[simp] theorem State.setPc_run : (s.setPc v).run = s.run := rfl
@[simp] theorem State.setPc_mem : (s.setPc v).mem = s.mem := rfl
@[simp] theorem State.setPc_physMap : (s.setPc v).physMap = s.physMap := rfl
@[simp] theorem State.setPc_bus : (s.setPc v).bus = s.bus := rfl
@[simp] theorem State.setPc_arrivals : (s.setPc v).arrivals = s.arrivals := rfl
@[simp] theorem State.setPc_moment : (s.setPc v).moment = s.moment := rfl
@[simp] theorem State.setPc_reg (r : Reg) : (s.setPc v).reg r = s.reg r := rfl
@[simp] theorem State.setPc_self : s.setPc s.pc = s := rfl
end

section
variable (s : State) (v : Word)
@[simp] theorem State.setSp_gpr : (s.setSp v).gpr = s.gpr := rfl
@[simp] theorem State.setSp_pc : (s.setSp v).pc = s.pc := rfl
@[simp] theorem State.setSp_sp : (s.setSp v).sp = v := rfl
@[simp] theorem State.setSp_ex : (s.setSp v).ex = s.ex := rfl
@[simp] theorem State.setSp_ia : (s.setSp v).ia = s.ia := rfl
@[simp] theorem State.setSp_skipping : (s.setSp v).skipping = s.skipping := rfl
@[simp] theorem State.setSp_queueing : (s.setSp v).queueing = s.queueing := rfl
@[simp] theorem State.setSp_mask : (s.setSp v).mask = s.mask := rfl
@[simp] theorem State.setSp_queue : (s.setSp v).queue = s.queue := rfl
@[simp] theorem State.setSp_emu : (s.setSp v).emu = s.emu := rfl
@[simp] theorem State.setSp_run : (s.setSp v).run = s.run := rfl
@[simp] theorem State.setSp_mem : (s.setSp v).mem = s.mem := rfl
@[simp] theorem State.setSp_physMap : (s.setSp v).physMap = s.physMap := rfl
@[simp] theorem State.setSp_bus : (s.setSp v).bus = s.bus := rfl
@[simp] theorem State.setSp_arrivals : (s.setSp v).arrivals = s.arrivals := rfl
@[simp] theorem State.setSp_moment : (s.setSp v).moment = s.moment := rfl
@[simp] theorem State.setSp_reg (r : Reg) : (s.setSp v).reg r = s.reg r := rfl
@[simp] theorem State.setSp_self : s.setSp s.sp = s := rfl
end

section
variable (s : State) (v : Word)
@[simp] theorem State.setEx_gpr : (s.setEx v).gpr = s.gpr := rfl
@[simp] theorem State.setEx_pc : (s.setEx v).pc = s.pc := rfl
@[simp] theorem State.setEx_sp : (s.setEx v).sp = s.sp := rfl
@[simp] theorem State.setEx_ex : (s.setEx v).ex = v := rfl
@[simp] theorem State.setEx_ia : (s.setEx v).ia = s.ia := rfl
@[simp] theorem State.setEx_skipping : (s.setEx v).skipping = s.skipping := rfl
@[simp] theorem State.setEx_queueing : (s.setEx v).queueing = s.queueing := rfl
@[simp] theorem State.setEx_mask : (s.setEx v).mask = s.mask := rfl
@[simp] theorem State.setEx_queue : (s.setEx v).queue = s.queue := rfl
@[simp] theorem State.setEx_emu : (s.setEx v).emu = s.emu := rfl
@[simp] theorem State.setEx_run : (s.setEx v).run = s.run := rfl
@[simp] theorem State.setEx_mem : (s.setEx v).mem = s.mem := rfl
@[simp] theorem State.setEx_physMap : (s.setEx v).physMap = s.physMap := rfl
@[simp] theorem State.setEx_bus : (s.setEx v).bus = s.bus := rfl
@[simp] theorem State.setEx_arrivals : (s.setEx v).arrivals = s.arrivals := rfl
@[simp] theorem State.setEx_moment : (s.setEx v).moment = s.moment := rfl
@[simp] theorem State.setEx_reg (r : Reg) : (s.setEx v).reg r = s.reg r := rfl
@[simp] theorem State.setEx_self : s.setEx s.ex = s := rfl
end

section
variable (s : State) (v : Word)
@[simp] theorem State.setIa_gpr : (s.setIa v).gpr = s.gpr := rfl
@[simp] theorem State.setIa_pc : (s.setIa v).pc = s.pc := rfl
@[simp] theorem State.setIa_sp : (s.setIa v).sp = s.sp := rfl
@[simp] theorem State.setIa_ex : (s.setIa v).ex = s.ex := rfl
@[simp] theorem State.setIa_ia : (s.setIa v).ia = v := rfl
@[simp] theorem State.setIa_skipping : (s.setIa v).skipping = s.skipping := rfl
@[simp] theorem State.setIa_queueing : (s.setIa v).queueing = s.queueing := rfl
@[simp] theorem State.setIa_mask : (s.setIa v).mask = s.mask := rfl
@[simp] theorem State.setIa_queue : (s.setIa v).queue = s.queue := rfl
@[simp] theorem State.setIa_emu : (s.setIa v).emu = s.emu := rfl
@[simp] theorem State.setIa_run : (s.setIa v).run = s.run := rfl
@[simp] theorem State.setIa_mem : (s.setIa v).mem = s.mem := rfl
@[simp] theorem State.setIa_physMap : (s.setIa v).physMap = s.physMap := rfl
@[simp] theorem State.setIa_bus : (s.setIa v).bus = s.bus := rfl
@[simp] theorem State.setIa_arrivals : (s.setIa v).arrivals = s.arrivals := rfl
@[simp] theorem State.setIa_moment : (s.setIa v).moment = s.moment := rfl
@[simp] theorem State.setIa_reg (r : Reg) : (s.setIa v).reg r = s.reg r := rfl
@[simp] theorem State.setIa_self : s.setIa s.ia = s := rfl
end

section
variable (s : State) (v : Bool)
@[simp] theorem State.setSkipping_gpr : (s.setSkipping v).gpr = s.gpr := rfl
@[simp] theorem State.setSkipping_pc : (s.setSkipping v).pc = s.pc := rfl
@[simp] theorem State.setSkipping_sp : (s.setSkipping v).sp = s.sp := rfl
@[simp] theorem State.setSkipping_ex : (s.setSkipping v).ex = s.ex := rfl
@[simp] theorem State.setSkipping_ia : (s.setSkipping v).ia = s.ia := rfl
@[simp] theorem State.setSkipping_skipping : (s.setSkipping v).skipping = v := rfl
@[simp] theorem State.setSkipping_queueing : (s.setSkipping v).queueing = s.queueing := rfl
@[simp] theorem State.setSkipping_mask : (s.setSkipping v).mask = s.mask := rfl
@[simp] theorem State.setSkipping_queue : (s.setSkipping v).queue = s.queue := rfl
@[simp] theorem State.setSkipping_emu : (s.setSkipping v).emu = s.emu := rfl
@[simp] theorem State.setSkipping_run : (s.setSkipping v).run = s.run := rfl
@[simp] theorem State.setSkipping_mem : (s.setSkipping v).mem = s.mem := rfl
@[simp] theorem State.setSkipping_physMap : (s.setSkipping v).physMap = s.physMap := rfl
@[simp] theorem State.setSkipping_bus : (s.setSkipping v).bus = s.bus := rfl
@[simp] theorem State.setSkipping_arrivals : (s.setSkipping v).arrivals = s.arrivals := rfl
@[simp] theorem State.setSkipping_moment : (s.setSkipping v).moment = s.moment := rfl
@[simp] theorem State.setSkipping_reg (r : Reg) : (s.setSkipping v).reg r = s.reg r := rfl
@[simp] theorem State.setSkipping_self : s.setSkipping s.skipping = s := rfl
end

section
variable (s : State) (v : Bool)
@[simp] theorem State.setQueueing_gpr : (s.setQueueing v).gpr = s.gpr := rfl
@[simp] theorem State.setQueueing_pc : (s.setQueueing v).pc = s.pc := rfl
@[simp] theorem State.setQueueing_sp : (s.setQueueing v).sp = s.sp := rfl
@[simp] theorem State.setQueueing_ex : (s.setQueueing v).ex = s.ex := rfl
@[simp] theorem State.setQueueing_ia : (s.setQueueing v).ia = s.ia := rfl
@[simp] theorem State.setQueueing_skipping : (s.setQueueing v).skipping = s.skipping := rfl
@[simp] theorem State.setQueueing_queueing : (s.setQueueing v).queueing = v := rfl
@[simp] theorem State.setQueueing_mask : (s.setQueueing v).mask = s.mask := rfl
@[simp] theorem State.setQueueing_queue : (s.setQueueing v).queue = s.queue := rfl
@[simp] theorem State.setQueueing_emu : (s.setQueueing v).emu = s.emu := rfl
@[simp] theorem State.setQueueing_run : (s.setQueueing v).run = s.run := rfl
@[simp] theorem State.setQueueing_mem : (s.setQueueing v).mem = s.mem := rfl
@[simp] theorem State.setQueueing_physMap : (s.setQueueing v).physMap = s.physMap := rfl
@[simp] theorem State.setQueueing_bus : (s.setQueueing v).bus = s.bus := rfl
@[simp] theorem State.setQueueing_arrivals : (s.setQueueing v).arrivals = s.arrivals := rfl
@[simp] theorem State.setQueueing_moment : (s.setQueueing v).moment = s.moment := rfl
@[simp] theorem State.setQueueing_reg (r : Reg) : (s.setQueueing v).reg r = s.reg r := rfl
@[simp] theorem State.setQueueing_self : s.setQueueing s.queueing = s := rfl
end

section
variable (s : State) (v : ByteMask)
@[simp] theorem State.setMask_gpr : (s.setMask v).gpr = s.gpr := rfl
@[simp] theorem State.setMask_pc : (s.setMask v).pc = s.pc := rfl
@[simp] theorem State.setMask_sp : (s.setMask v).sp = s.sp := rfl
@[simp] theorem State.setMask_ex : (s.setMask v).ex = s.ex := rfl
@[simp] theorem State.setMask_ia : (s.setMask v).ia = s.ia := rfl
@[simp] theorem State.setMask_skipping : (s.setMask v).skipping = s.skipping := rfl
@[simp] theorem State.setMask_queueing : (s.setMask v).queueing = s.queueing := rfl
@[simp] theorem State.setMask_mask : (s.setMask v).mask = v := rfl
@[simp] theorem State.setMask_queue : (s.setMask v).queue = s.queue := rfl
@[simp] theorem State.setMask_emu : (s.setMask v).emu = s.emu := rfl
@[simp] theorem State.setMask_run : (s.setMask v).run = s.run := rfl
@[simp] theorem State.setMask_mem : (s.setMask v).mem = s.mem := rfl
@[simp] theorem State.setMask_physMap : (s.setMask v).physMap = s.physMap := rfl
@[simp] theorem State.setMask_bus : (s.setMask v).bus = s.bus := rfl
@[simp] theorem State.setMask_arrivals : (s.setMask v).arrivals = s.arrivals := rfl
@[simp] theorem State.setMask_moment : (s.setMask v).moment = s.moment := rfl
@[simp] theorem State.setMask_reg (r : Reg) : (s.setMask v).reg r = s.reg r := rfl
@[simp] theorem State.setMask_self : s.setMask s.mask = s := rfl
end

section
variable (s : State) (v : List Word)
@[simp] theorem State.setQueue_gpr : (s.setQueue v).gpr = s.gpr := rfl
@[simp] theorem State.setQueue_pc : (s.setQueue v).pc = s.pc := rfl
@[simp] theorem State.setQueue_sp : (s.setQueue v).sp = s.sp := rfl
@[simp] theorem State.setQueue_ex : (s.setQueue v).ex = s.ex := rfl
@[simp] theorem State.setQueue_ia : (s.setQueue v).ia = s.ia := rfl
@[simp] theorem State.setQueue_skipping : (s.setQueue v).skipping = s.skipping := rfl
@[simp] theorem State.setQueue_queueing : (s.setQueue v).queueing = s.queueing := rfl
@[simp] theorem State.setQueue_mask : (s.setQueue v).mask = s.mask := rfl
@[simp] theorem State.setQueue_queue : (s.setQueue v).queue = v := rfl
@[simp] theorem State.setQueue_emu : (s.setQueue v).emu = s.emu := rfl
@[simp] theorem State.setQueue_run : (s.setQueue v).run = s.run := rfl
@[simp] theorem State.setQueue_mem : (s.setQueue v).mem = s.mem := rfl
@[simp] theorem State.setQueue_physMap : (s.setQueue v).physMap = s.physMap := rfl
@[simp] theorem State.setQueue_bus : (s.setQueue v).bus = s.bus := rfl
@[simp] theorem State.setQueue_arrivals : (s.setQueue v).arrivals = s.arrivals := rfl
@[simp] theorem State.setQueue_moment : (s.setQueue v).moment = s.moment := rfl
@[simp] theorem State.setQueue_reg (r : Reg) : (s.setQueue v).reg r = s.reg r := rfl
@[simp] theorem State.setQueue_self : s.setQueue s.queue = s := rfl
end

section
variable (s : State) (v : Vector PageNo 16)
@[simp] theorem State.setEmu_gpr : (s.setEmu v).gpr = s.gpr := rfl
@[simp] theorem State.setEmu_pc : (s.setEmu v).pc = s.pc := rfl
@[simp] theorem State.setEmu_sp : (s.setEmu v).sp = s.sp := rfl
@[simp] theorem State.setEmu_ex : (s.setEmu v).ex = s.ex := rfl
@[simp] theorem State.setEmu_ia : (s.setEmu v).ia = s.ia := rfl
@[simp] theorem State.setEmu_skipping : (s.setEmu v).skipping = s.skipping := rfl
@[simp] theorem State.setEmu_queueing : (s.setEmu v).queueing = s.queueing := rfl
@[simp] theorem State.setEmu_mask : (s.setEmu v).mask = s.mask := rfl
@[simp] theorem State.setEmu_queue : (s.setEmu v).queue = s.queue := rfl
@[simp] theorem State.setEmu_emu : (s.setEmu v).emu = v := rfl
@[simp] theorem State.setEmu_run : (s.setEmu v).run = s.run := rfl
@[simp] theorem State.setEmu_mem : (s.setEmu v).mem = s.mem := rfl
@[simp] theorem State.setEmu_physMap : (s.setEmu v).physMap = s.physMap := rfl
@[simp] theorem State.setEmu_bus : (s.setEmu v).bus = s.bus := rfl
@[simp] theorem State.setEmu_arrivals : (s.setEmu v).arrivals = s.arrivals := rfl
@[simp] theorem State.setEmu_moment : (s.setEmu v).moment = s.moment := rfl
@[simp] theorem State.setEmu_reg (r : Reg) : (s.setEmu v).reg r = s.reg r := rfl
@[simp] theorem State.setEmu_self : s.setEmu s.emu = s := rfl
end

section
variable (s : State) (v : RunState)
@[simp] theorem State.setRun_gpr : (s.setRun v).gpr = s.gpr := rfl
@[simp] theorem State.setRun_pc : (s.setRun v).pc = s.pc := rfl
@[simp] theorem State.setRun_sp : (s.setRun v).sp = s.sp := rfl
@[simp] theorem State.setRun_ex : (s.setRun v).ex = s.ex := rfl
@[simp] theorem State.setRun_ia : (s.setRun v).ia = s.ia := rfl
@[simp] theorem State.setRun_skipping : (s.setRun v).skipping = s.skipping := rfl
@[simp] theorem State.setRun_queueing : (s.setRun v).queueing = s.queueing := rfl
@[simp] theorem State.setRun_mask : (s.setRun v).mask = s.mask := rfl
@[simp] theorem State.setRun_queue : (s.setRun v).queue = s.queue := rfl
@[simp] theorem State.setRun_emu : (s.setRun v).emu = s.emu := rfl
@[simp] theorem State.setRun_run : (s.setRun v).run = v := rfl
@[simp] theorem State.setRun_mem : (s.setRun v).mem = s.mem := rfl
@[simp] theorem State.setRun_physMap : (s.setRun v).physMap = s.physMap := rfl
@[simp] theorem State.setRun_bus : (s.setRun v).bus = s.bus := rfl
@[simp] theorem State.setRun_arrivals : (s.setRun v).arrivals = s.arrivals := rfl
@[simp] theorem State.setRun_moment : (s.setRun v).moment = s.moment := rfl
@[simp] theorem State.setRun_reg (r : Reg) : (s.setRun v).reg r = s.reg r := rfl
@[simp] theorem State.setRun_self : s.setRun s.run = s := rfl
end

section
variable (s : State) (v : Memory)
@[simp] theorem State.setMem_gpr : (s.setMem v).gpr = s.gpr := rfl
@[simp] theorem State.setMem_pc : (s.setMem v).pc = s.pc := rfl
@[simp] theorem State.setMem_sp : (s.setMem v).sp = s.sp := rfl
@[simp] theorem State.setMem_ex : (s.setMem v).ex = s.ex := rfl
@[simp] theorem State.setMem_ia : (s.setMem v).ia = s.ia := rfl
@[simp] theorem State.setMem_skipping : (s.setMem v).skipping = s.skipping := rfl
@[simp] theorem State.setMem_queueing : (s.setMem v).queueing = s.queueing := rfl
@[simp] theorem State.setMem_mask : (s.setMem v).mask = s.mask := rfl
@[simp] theorem State.setMem_queue : (s.setMem v).queue = s.queue := rfl
@[simp] theorem State.setMem_emu : (s.setMem v).emu = s.emu := rfl
@[simp] theorem State.setMem_run : (s.setMem v).run = s.run := rfl
@[simp] theorem State.setMem_mem : (s.setMem v).mem = v := rfl
@[simp] theorem State.setMem_physMap : (s.setMem v).physMap = s.physMap := rfl
@[simp] theorem State.setMem_bus : (s.setMem v).bus = s.bus := rfl
@[simp] theorem State.setMem_arrivals : (s.setMem v).arrivals = s.arrivals := rfl
@[simp] theorem State.setMem_moment : (s.setMem v).moment = s.moment := rfl
@[simp] theorem State.setMem_reg (r : Reg) : (s.setMem v).reg r = s.reg r := rfl
@[simp] theorem State.setMem_self : s.setMem s.mem = s := rfl
end

section
variable (s : State) (v : List BusEvent)
@[simp] theorem State.setBus_gpr : (s.setBus v).gpr = s.gpr := rfl
@[simp] theorem State.setBus_pc : (s.setBus v).pc = s.pc := rfl
@[simp] theorem State.setBus_sp : (s.setBus v).sp = s.sp := rfl
@[simp] theorem State.setBus_ex : (s.setBus v).ex = s.ex := rfl
@[simp] theorem State.setBus_ia : (s.setBus v).ia = s.ia := rfl
@[simp] theorem State.setBus_skipping : (s.setBus v).skipping = s.skipping := rfl
@[simp] theorem State.setBus_queueing : (s.setBus v).queueing = s.queueing := rfl
@[simp] theorem State.setBus_mask : (s.setBus v).mask = s.mask := rfl
@[simp] theorem State.setBus_queue : (s.setBus v).queue = s.queue := rfl
@[simp] theorem State.setBus_emu : (s.setBus v).emu = s.emu := rfl
@[simp] theorem State.setBus_run : (s.setBus v).run = s.run := rfl
@[simp] theorem State.setBus_mem : (s.setBus v).mem = s.mem := rfl
@[simp] theorem State.setBus_physMap : (s.setBus v).physMap = s.physMap := rfl
@[simp] theorem State.setBus_bus : (s.setBus v).bus = v := rfl
@[simp] theorem State.setBus_arrivals : (s.setBus v).arrivals = s.arrivals := rfl
@[simp] theorem State.setBus_moment : (s.setBus v).moment = s.moment := rfl
@[simp] theorem State.setBus_reg (r : Reg) : (s.setBus v).reg r = s.reg r := rfl
@[simp] theorem State.setBus_self : s.setBus s.bus = s := rfl
end

section
variable (s : State) (v : List (List Word))
@[simp] theorem State.setArrivals_gpr : (s.setArrivals v).gpr = s.gpr := rfl
@[simp] theorem State.setArrivals_pc : (s.setArrivals v).pc = s.pc := rfl
@[simp] theorem State.setArrivals_sp : (s.setArrivals v).sp = s.sp := rfl
@[simp] theorem State.setArrivals_ex : (s.setArrivals v).ex = s.ex := rfl
@[simp] theorem State.setArrivals_ia : (s.setArrivals v).ia = s.ia := rfl
@[simp] theorem State.setArrivals_skipping : (s.setArrivals v).skipping = s.skipping := rfl
@[simp] theorem State.setArrivals_queueing : (s.setArrivals v).queueing = s.queueing := rfl
@[simp] theorem State.setArrivals_mask : (s.setArrivals v).mask = s.mask := rfl
@[simp] theorem State.setArrivals_queue : (s.setArrivals v).queue = s.queue := rfl
@[simp] theorem State.setArrivals_emu : (s.setArrivals v).emu = s.emu := rfl
@[simp] theorem State.setArrivals_run : (s.setArrivals v).run = s.run := rfl
@[simp] theorem State.setArrivals_mem : (s.setArrivals v).mem = s.mem := rfl
@[simp] theorem State.setArrivals_physMap : (s.setArrivals v).physMap = s.physMap := rfl
@[simp] theorem State.setArrivals_bus : (s.setArrivals v).bus = s.bus := rfl
@[simp] theorem State.setArrivals_arrivals : (s.setArrivals v).arrivals = v := rfl
@[simp] theorem State.setArrivals_moment : (s.setArrivals v).moment = s.moment := rfl
@[simp] theorem State.setArrivals_reg (r : Reg) : (s.setArrivals v).reg r = s.reg r := rfl
@[simp] theorem State.setArrivals_self : s.setArrivals s.arrivals = s := rfl
end

section
variable (s : State) (v : Nat)
@[simp] theorem State.setMoment_gpr : (s.setMoment v).gpr = s.gpr := rfl
@[simp] theorem State.setMoment_pc : (s.setMoment v).pc = s.pc := rfl
@[simp] theorem State.setMoment_sp : (s.setMoment v).sp = s.sp := rfl
@[simp] theorem State.setMoment_ex : (s.setMoment v).ex = s.ex := rfl
@[simp] theorem State.setMoment_ia : (s.setMoment v).ia = s.ia := rfl
@[simp] theorem State.setMoment_skipping : (s.setMoment v).skipping = s.skipping := rfl
@[simp] theorem State.setMoment_queueing : (s.setMoment v).queueing = s.queueing := rfl
@[simp] theorem State.setMoment_mask : (s.setMoment v).mask = s.mask := rfl
@[simp] theorem State.setMoment_queue : (s.setMoment v).queue = s.queue := rfl
@[simp] theorem State.setMoment_emu : (s.setMoment v).emu = s.emu := rfl
@[simp] theorem State.setMoment_run : (s.setMoment v).run = s.run := rfl
@[simp] theorem State.setMoment_mem : (s.setMoment v).mem = s.mem := rfl
@[simp] theorem State.setMoment_physMap : (s.setMoment v).physMap = s.physMap := rfl
@[simp] theorem State.setMoment_bus : (s.setMoment v).bus = s.bus := rfl
@[simp] theorem State.setMoment_arrivals : (s.setMoment v).arrivals = s.arrivals := rfl
@[simp] theorem State.setMoment_moment : (s.setMoment v).moment = v := rfl
@[simp] theorem State.setMoment_reg (r : Reg) : (s.setMoment v).reg r = s.reg r := rfl
@[simp] theorem State.setMoment_self : s.setMoment s.moment = s := rfl
end

/-- A general register reads back what was written, and the others keep their values (10_state.md R20). -/
theorem Gpr.get_set (g : Gpr) (r q : Reg) (v : Word) : (g.set r v).get q = if r = q then v else g.get q := by
  cases r <;> cases q <;> rfl

@[simp] theorem Gpr.set_get (g : Gpr) (r : Reg) : g.set r (g.get r) = g := by cases r <;> rfl

/-- Two register files that read alike are equal. -/
theorem Gpr.ext_get {g h : Gpr} (e : ∀ r, g.get r = h.get r) : g = h := by
  cases g; cases h
  have := e .a; have := e .b; have := e .c; have := e .x; have := e .y; have := e .z; have := e .i; have := e .j
  simp_all [Gpr.get]

section
variable (s : State) (r : Reg) (v : Word)
theorem State.setReg_reg (q : Reg) : (s.setReg r v).reg q = if r = q then v else s.reg q := Gpr.get_set s.gpr r q v
@[simp] theorem State.setReg_pc : (s.setReg r v).pc = s.pc := rfl
@[simp] theorem State.setReg_sp : (s.setReg r v).sp = s.sp := rfl
@[simp] theorem State.setReg_ex : (s.setReg r v).ex = s.ex := rfl
@[simp] theorem State.setReg_ia : (s.setReg r v).ia = s.ia := rfl
@[simp] theorem State.setReg_skipping : (s.setReg r v).skipping = s.skipping := rfl
@[simp] theorem State.setReg_queueing : (s.setReg r v).queueing = s.queueing := rfl
@[simp] theorem State.setReg_mask : (s.setReg r v).mask = s.mask := rfl
@[simp] theorem State.setReg_queue : (s.setReg r v).queue = s.queue := rfl
@[simp] theorem State.setReg_emu : (s.setReg r v).emu = s.emu := rfl
@[simp] theorem State.setReg_run : (s.setReg r v).run = s.run := rfl
@[simp] theorem State.setReg_mem : (s.setReg r v).mem = s.mem := rfl
@[simp] theorem State.setReg_physMap : (s.setReg r v).physMap = s.physMap := rfl
@[simp] theorem State.setReg_bus : (s.setReg r v).bus = s.bus := rfl
@[simp] theorem State.setReg_arrivals : (s.setReg r v).arrivals = s.arrivals := rfl
@[simp] theorem State.setReg_moment : (s.setReg r v).moment = s.moment := rfl
end

end Sys2Proof.Machine
end

