-- ==== Sys2Proof/Laws/Memory.lean ====
section
/-! SUPPORT. The laws of physical memory: reading after writing, the canonical form and its preservation. -/

namespace Sys2Proof.Machine

theorem Memory.read_erase (m : Memory) (a b : Nat) :
    (m.erase a).read b = if b = a then unlistedOctet else m.read b := by
  induction m with
  | nil => simp [Memory.erase, Memory.read]
  | cons c rest ih =>
    simp only [Memory.erase] at ih
    by_cases h : c.1 = a
    · have : (c.1 != a) = false := by simp [h]
      rw [Memory.erase, List.filter_cons_of_neg (by simp [h]), ih]
      split <;> simp_all [Memory.read]
    · rw [Memory.erase, List.filter_cons_of_pos (by simp [h])]
      simp only [Memory.read, ih]
      split <;> split <;> simp_all

theorem Memory.read_insert (m : Memory) (a b : Nat) (v : Octet) (h : m.read a = unlistedOctet)
    (hl : ∀ c ∈ m, c.1 ≠ a) : (m.insert a v).read b = if b = a then v else m.read b := by
  induction m with
  | nil => simp [Memory.insert, Memory.read]
  | cons c rest ih =>
    have hc : c.1 ≠ a := hl c (by simp)
    have hr : Memory.read rest a = unlistedOctet := by simpa [Memory.read, Ne.symm hc] using h
    have ih := ih hr fun d hd => hl d (by simp [hd])
    rw [Memory.insert]
    split
    · simp [Memory.read]
    · simp only [Memory.read, ih]
      split <;> split <;> simp_all

/-- Reading an octet after a write: the value written, or what was there before (20_memory.md R71). -/
theorem Memory.read_write (m : Memory) (a b : Nat) (v : Octet) :
    (m.write a v).read b = if b = a then v else m.read b := by
  rw [Memory.write]
  split
  · next h => rw [Memory.read_erase, h]
  · rw [Memory.read_insert]
    · rw [Memory.read_erase]; split <;> simp_all
    · simp [Memory.read_erase]
    · intro c hc; simpa using (List.mem_filter.mp hc).2

theorem Memory.wf_cons (c : Host.Cell) (m : Memory) :
    Memory.wf (c :: m) = true ↔ c.1 < 2 ^ 24 ∧ c.2 ≠ unlistedOctet ∧ (∀ d ∈ m, c.1 < d.1) ∧ m.wf = true := by
  obtain ⟨k, v⟩ := c
  simp [Memory.wf, and_assoc]

theorem Memory.wf_erase {m : Memory} (h : m.wf = true) (a : Nat) : (m.erase a).wf = true := by
  induction m with
  | nil => rfl
  | cons c rest ih =>
    rw [Memory.wf_cons] at h
    simp only [Memory.erase] at ih
    rw [Memory.erase, List.filter_cons]
    split
    · rw [Memory.wf_cons]
      exact ⟨h.1, h.2.1, fun d hd => h.2.2.1 d (List.mem_of_mem_filter hd), ih h.2.2.2⟩
    · exact ih h.2.2.2

theorem Memory.mem_insert {m : Memory} {a : Nat} {v : Octet} {d : Host.Cell} (h : d ∈ m.insert a v) :
    d = (a, v) ∨ d ∈ m := by
  induction m with
  | nil => simpa [Memory.insert] using h
  | cons c rest ih =>
    rw [Memory.insert] at h
    split at h
    · simpa using h
    · rcases List.mem_cons.mp h with h | h
      · exact .inr (by simp [h])
      · rcases ih h with h | h
        · exact .inl h
        · exact .inr (by simp [h])

theorem Memory.wf_insert {m : Memory} (h : m.wf = true) {a : Nat} {v : Octet} (ha : a < 2 ^ 24)
    (hv : v ≠ unlistedOctet) (hl : ∀ c ∈ m, c.1 ≠ a) : (m.insert a v).wf = true := by
  induction m with
  | nil => rw [Memory.insert, Memory.wf_cons]; exact ⟨ha, hv, by simp, rfl⟩
  | cons c rest ih =>
    have h' := h
    rw [Memory.wf_cons] at h
    rw [Memory.insert]
    split
    · next hlt =>
      rw [Memory.wf_cons]
      refine ⟨ha, hv, fun d hd => ?_, h'⟩
      rcases List.mem_cons.mp hd with hd | hd
      · exact hd ▸ hlt
      · exact Nat.lt_trans hlt (h.2.2.1 d hd)
    · next hlt =>
      rw [Memory.wf_cons]
      refine ⟨h.1, h.2.1, fun d hd => ?_, ih h.2.2.2 fun d hd => hl d (by simp [hd])⟩
      rcases Memory.mem_insert hd with hd | hd
      · have := hl c (by simp); subst hd; simp only; omega
      · exact h.2.2.1 d hd

/-- Every write inside the 24 bit space keeps the canonical form. -/
theorem Memory.wf_write {m : Memory} (h : m.wf = true) {a : Nat} (ha : a < 2 ^ 24) (v : Octet) :
    (m.write a v).wf = true := by
  rw [Memory.write]
  split
  · exact Memory.wf_erase h a
  · next hv =>
    exact Memory.wf_insert (Memory.wf_erase h a) ha hv fun c hc => by simpa using (List.mem_filter.mp hc).2

end Sys2Proof.Machine
end

