-- ==== Sys2Proof/Laws/Ops.lean ====
section
/-! SUPPORT. What each shared operation of Machine/Ops.lean can do, said once. -/

namespace Sys2Proof.Machine

/-! ## The EMU -/

theorem translate_toNat (e : Vector PageNo 16) (va : Word) :
    (translate e va).toNat = (emuPage e (blockOf va)).toNat * 4096 + va.toNat % 4096 := by
  have h : va.toNat % 4096 < 2 ^ 12 := Nat.mod_lt _ (by decide)
  rw [translate, BitVec.toNat_append, BitVec.extractLsb'_toNat, ← Nat.shiftLeft_add_eq_or_of_lt]
  all_goals simp [Nat.shiftLeft_eq]
  all_goals omega

/-- Octets less than a page apart are different physical octets, whatever the mapping (R54, R56). -/
theorem translate_ne (e : Vector PageNo 16) {va vb : Word} (h : va.toNat % 4096 ≠ vb.toNat % 4096) :
    translate e va ≠ translate e vb := by
  intro he
  have := congrArg BitVec.toNat he
  rw [translate_toNat, translate_toNat] at this
  omega

theorem translate_ne_succ (e : Vector PageNo 16) (va : Word) : translate e va ≠ translate e (va + 1#16) := by
  apply translate_ne
  simp only [BitVec.toNat_add, BitVec.toNat_ofNat]
  omega

theorem emuPage_emuMap (e : Vector PageNo 16) (b c : BlockNo) (p : PageNo) :
    emuPage (emuMap e b p) c = if b = c then p else emuPage e c := by
  simp only [emuPage, emuMap, Vector.getElem_set, BitVec.toNat_inj]

/-! ## Octets and words -/

theorem lo8_joinOctets (hi lo : Octet) : lo8 (joinOctets hi lo) = lo := by
  rw [lo8, joinOctets, BitVec.extractLsb'_append_eq_of_add_le (by decide)]; simp

theorem hi8_joinOctets (hi lo : Octet) : hi8 (joinOctets hi lo) = hi := by
  rw [hi8, joinOctets, BitVec.extractLsb'_append_eq_of_le (by decide)]; simp

theorem joinOctets_hi8_lo8 (v : Word) : joinOctets (hi8 v) (lo8 v) = v := by
  rw [joinOctets, hi8, lo8, BitVec.extractLsb'_append_extractLsb'_eq_extractLsb' (by decide)]; simp

/-! ## Reading -/

/-- Reading RAM or ROM answers the octet and changes nothing (R53, R61). -/
theorem readOctet_plain {va : Word} {s : State}
    (h : kindAt s.physMap (translate s.emu va) = .ram ∨ kindAt s.physMap (translate s.emu va) = .rom) :
    readOctet va s = (s.mem.read (translate s.emu va).toNat, s) := by
  rcases h with h | h <;> simp only [readOctet, h]

/-- Reading a device or an empty address answers the platform's free value, and the trace gains the read (U7). -/
theorem readOctet_platform {va : Word} {s : State}
    (h : kindAt s.physMap (translate s.emu va) = .device ∨ kindAt s.physMap (translate s.emu va) = .empty) :
    readOctet va s = (Config.memAnswer s.bus (translate s.emu va),
      s.setBus (.memRead (translate s.emu va) (Config.memAnswer s.bus (translate s.emu va)) :: s.bus)) := by
  rcases h with h | h <;> simp only [readOctet, h]

/-- An octet read changes at most the trace. -/
theorem readOctet_state (va : Word) (s : State) : (readOctet va s).2 = s.setBus (readOctet va s).2.bus := by
  cases h : kindAt s.physMap (translate s.emu va)
  · rw [readOctet_plain (.inl h)]; rfl
  · rw [readOctet_plain (.inr h)]; rfl
  · rw [readOctet_platform (.inl h)]; rfl
  · rw [readOctet_platform (.inr h)]; rfl

/-- A word read changes at most the trace. -/
theorem readWord_state (va : Word) (s : State) : (readWord va s).2 = s.setBus (readWord va s).2.bus := by
  have h1 := readOctet_state (va + 1#16) (readOctet va s).2
  have h0 := readOctet_state va s
  rw [h0] at h1
  simp only [readWord]
  rw [h0, h1]
  rfl

/-- A word whose octets are RAM or ROM reads as its two octets, and nothing changes (R54). -/
theorem readWord_plain {va : Word} {s : State}
    (h0 : kindAt s.physMap (translate s.emu va) = .ram ∨ kindAt s.physMap (translate s.emu va) = .rom)
    (h1 : kindAt s.physMap (translate s.emu (va + 1#16)) = .ram ∨
      kindAt s.physMap (translate s.emu (va + 1#16)) = .rom) :
    readWord va s = (joinOctets (s.mem.read (translate s.emu (va + 1#16)).toNat)
      (s.mem.read (translate s.emu va).toNat), s) := by
  simp only [readWord, readOctet_plain h0, readOctet_plain h1]

/-- An octet read depends on the EMU, the physical map, memory and the trace alone. -/
theorem readOctet_congr {s t : State} (va : Word) (he : s.emu = t.emu) (hp : s.physMap = t.physMap)
    (hm : s.mem = t.mem) (hb : s.bus = t.bus) :
    (readOctet va s).1 = (readOctet va t).1 ∧ (readOctet va s).2.bus = (readOctet va t).2.bus := by
  simp only [readOctet, he, hp, hm, hb]
  split <;> simp [hb]

/-- A word read depends on the EMU, the physical map, memory and the trace alone. -/
theorem readWord_congr {s t : State} (va : Word) (he : s.emu = t.emu) (hp : s.physMap = t.physMap)
    (hm : s.mem = t.mem) (hb : s.bus = t.bus) :
    (readWord va s).1 = (readWord va t).1 ∧ (readWord va s).2.bus = (readWord va t).2.bus := by
  have h0 := readOctet_congr va he hp hm hb
  have h1 := readOctet_congr (s := (readOctet va s).2) (t := (readOctet va t).2) (va + 1#16)
    (by rw [readOctet_state, readOctet_state va t]; exact he)
    (by rw [readOctet_state, readOctet_state va t]; exact hp)
    (by rw [readOctet_state, readOctet_state va t]; exact hm) h0.2
  simp only [readWord, h0.1, h1.1, h1.2, and_self]

/-- A fetch moves PC by two and changes at most the trace besides (R57). -/
theorem fetch16_state (s : State) : (fetch16 s).2 = (s.setBus (fetch16 s).2.bus).setPc (s.pc + 2#16) := by
  have h := readWord_state s.pc s
  simp only [fetch16]
  rw [h]
  rfl

/-- A pop moves SP by two and changes at most the trace besides (R138). -/
theorem pop_state (s : State) : (pop s).2 = (s.setBus (pop s).2.bus).setSp (s.sp + 2#16) := by
  have h := readWord_state s.sp s
  simp only [pop]
  rw [h]
  rfl

/-! ## Writing -/

/-- Memory after one octet store. -/
def memAfter (e : Vector PageNo 16) (pm : List Region) (m : Memory) (c : Word × Octet) : Memory :=
  if kindAt pm (translate e c.1) = .ram then m.write (translate e c.1).toNat c.2 else m

/-- The trace after one octet store. -/
def busAfter (e : Vector PageNo 16) (pm : List Region) (l : List BusEvent) (c : Word × Octet) : List BusEvent :=
  if kindAt pm (translate e c.1) = .device then .memWrite (translate e c.1) c.2 :: l else l

/-- Memory after octet stores, in their order. -/
def memAfterAll (s : State) (stores : List (Word × Octet)) : Memory :=
  stores.foldl (memAfter s.emu s.physMap) s.mem

/-- The trace after octet stores, in their order. -/
def busAfterAll (s : State) (l : List BusEvent) (stores : List (Word × Octet)) : List BusEvent :=
  stores.foldl (busAfter s.emu s.physMap) l

/-- An octet store changes at most memory and the trace (R55). -/
theorem writeOctet_eq (va : Word) (v : Octet) (s : State) :
    writeOctet va v s = (s.setMem (memAfterAll s [(va, v)])).setBus (busAfterAll s s.bus [(va, v)]) := by
  cases h : kindAt s.physMap (translate s.emu va)
  all_goals simp only [writeOctet, memAfterAll, busAfterAll, memAfter, busAfter, List.foldl_cons, List.foldl_nil, h]
  all_goals rfl

/-- A word store changes at most memory and the trace (R56). -/
theorem writeWord_eq (va v : Word) (s : State) :
    writeWord va v s = (s.setMem (memAfterAll s (wordStores va v))).setBus
      (busAfterAll s s.bus (wordStores va v)) := by
  simp only [writeWord, writeOctet_eq]
  rfl

/-- A push moves SP down by two and stores the word there (R137). -/
theorem push_eq (v : Word) (s : State) :
    push v s = ((s.setMem (memAfterAll s (wordStores (s.sp - 2#16) v))).setBus
      (busAfterAll s s.bus (wordStores (s.sp - 2#16) v))).setSp (s.sp - 2#16) := by
  simp only [push, writeWord_eq]
  rfl

/-- The physical octet a store list leaves at an address: the last store to it, or what was there. -/
theorem memAfterAll_read_of_ne (s : State) (stores : List (Word × Octet)) (pa : PhysAddr)
    (h : ∀ c ∈ stores, storeKind s c = .ram → storePhys s c ≠ pa) :
    (memAfterAll s stores).read pa.toNat = s.mem.read pa.toNat := by
  have key : ∀ m : Memory, (stores.foldl (memAfter s.emu s.physMap) m).read pa.toNat = m.read pa.toNat := by
    induction stores with
    | nil => exact fun m => rfl
    | cons c rest ih =>
      intro m
      rw [List.foldl_cons, ih fun d hd => h d (by simp [hd])]
      rw [memAfter]
      split
      · next hk =>
        have hne := h c (by simp) hk
        rw [Memory.read_write, if_neg fun he => hne (BitVec.eq_of_toNat_eq he.symm)]
      · rfl
  exact key s.mem

/-- Stores to different physical octets each leave their value. -/
theorem memAfterAll_read_of_mem (s : State) (stores : List (Word × Octet))
    (hd : stores.Pairwise fun c d => storePhys s c ≠ storePhys s d) {c : Word × Octet} (hc : c ∈ stores)
    (hk : storeKind s c = .ram) : (memAfterAll s stores).read (storePhys s c).toNat = c.2 := by
  have key : ∀ m : Memory,
      (stores.foldl (memAfter s.emu s.physMap) m).read (storePhys s c).toNat = c.2 := by
    induction stores with
    | nil => simp at hc
    | cons d rest ih =>
      intro m
      rw [List.pairwise_cons] at hd
      rw [List.foldl_cons]
      rcases List.mem_cons.mp hc with rfl | hc
      · have hrest := memAfterAll_read_of_ne (s.setMem (memAfter s.emu s.physMap m c)) rest (storePhys s c)
          fun d hd' _ => Ne.symm (hd.1 d hd')
        rw [memAfterAll] at hrest
        simp only [State.setMem_emu, State.setMem_physMap, State.setMem_mem] at hrest
        have hk' : kindAt s.physMap (translate s.emu c.1) = .ram := hk
        rw [hrest, memAfter, if_pos hk', Memory.read_write]
        exact if_pos rfl
      · exact ih hd.2 hc _
  exact key s.mem

/-- Octet stores to different physical octets do what `Stored` says. -/
theorem stored_memAfterAll (s t : State) (stores : List (Word × Octet))
    (hd : stores.Pairwise fun c d => storePhys s c ≠ storePhys s d) (h : t.mem = memAfterAll s stores) :
    Stored s t stores :=
  ⟨fun _ hc hk => h ▸ memAfterAll_read_of_mem s stores hd hc hk,
   fun pa hne => h ▸ memAfterAll_read_of_ne s stores pa hne⟩

theorem busAfterAll_eq (s : State) (l : List BusEvent) (stores : List (Word × Octet)) :
    busAfterAll s l stores = deviceWrites s stores ++ l := by
  induction stores generalizing l with
  | nil => rfl
  | cons c rest ih =>
    have h : busAfterAll s l (c :: rest) = busAfterAll s (busAfter s.emu s.physMap l c) rest := rfl
    rw [h, ih, busAfter, deviceWrites, deviceWrites, List.filter_cons]
    by_cases hk : kindAt s.physMap (translate s.emu c.1) = .device
    · simp [hk, storeKind, storePhys]
    · simp [hk, storeKind, storePhys]

/-- The two octets of a word store are different physical octets. -/
theorem wordStores_pairwise (s : State) (addr v : Word) :
    (wordStores addr v).Pairwise fun c d => storePhys s c ≠ storePhys s d := by
  simp [wordStores, storePhys, translate_ne_succ]

/-- A word store does what `Stored` says of its two octets (R56). -/
theorem writeWord_stored (va v : Word) (s : State) : Stored s (writeWord va v s) (wordStores va v) :=
  stored_memAfterAll s _ _ (wordStores_pairwise s va v) (by rw [writeWord_eq]; rfl)

/-- Octet stores keep the canonical form. -/
theorem memAfterAll_wf (s : State) (stores : List (Word × Octet)) (h : s.mem.wf = true) :
    (memAfterAll s stores).wf = true := by
  have key : ∀ m : Memory, m.wf = true → (stores.foldl (memAfter s.emu s.physMap) m).wf = true := by
    induction stores with
    | nil => exact fun m hm => hm
    | cons c rest ih =>
      intro m hm
      refine ih _ ?_
      rw [memAfter]
      split
      · exact Memory.wf_write hm (BitVec.isLt _) _
      · exact hm
  exact key s.mem h

/-! ## The interrupt queue and interrupts -/

/-- What Enqueue can do: append the message, or set the machine on fire when 256 are held (R303, R304). -/
theorem enqueue_cases (msg : Word) (s : State) :
    (s.queue.length < 256 ∧ enqueue msg s = s.setQueue (s.queue ++ [msg])) ∨
    (256 ≤ s.queue.length ∧ enqueue msg s = s.setRun .onFire) := by
  by_cases h : s.queue.length < 256
  · exact .inl ⟨h, by simp [enqueue, Config.queueCapacity, h]⟩
  · exact .inr ⟨by omega, by simp [enqueue, Config.queueCapacity, h]⟩

/-- The octet stores of interrupt entry: PC, then A below it (R307). -/
def entryStores (s : State) : List (Word × Octet) :=
  wordStores (s.sp - 2#16) s.pc ++ wordStores (s.sp - 4#16) (s.reg .a)

/-- Interrupt entry, whole (R307). -/
theorem enterInterrupt_eq (msg : Word) (s : State) :
    enterInterrupt msg s = (((((((s.setMem (memAfterAll s (entryStores s))).setBus
      (busAfterAll s s.bus (entryStores s))).setQueueing true).setSp (s.sp - 4#16)).setPc s.ia).setReg .a msg).setRun
      .running) := by
  have h : s.sp - 2#16 - 2#16 = s.sp - 4#16 := by bv_omega
  simp only [enterInterrupt, push_eq, entryStores, memAfterAll, busAfterAll, State.setQueueing_sp, State.setSp_sp, h]
  simp [List.foldl_append, State.setQueueing, State.setMem, State.setBus, State.setSp, State.setPc, State.setRun,
    State.setReg, State.setGpr, State.reg]

/-- Return from interrupt: queueing off, two pops, A and PC written, at most the trace besides (R238, R311). -/
theorem returnFromInterrupt_eq (s : State) :
    ∃ a pc l, returnFromInterrupt s =
      (((((s.setQueueing false).setBus l).setReg .a a).setSp (s.sp + 4#16)).setPc pc) := by
  refine ⟨(pop (s.setQueueing false)).1, (pop ((pop (s.setQueueing false)).2.setReg .a
    (pop (s.setQueueing false)).1)).1, (pop ((pop (s.setQueueing false)).2.setReg .a
    (pop (s.setQueueing false)).1)).2.bus, ?_⟩
  simp only [returnFromInterrupt]
  rw [pop_state ((pop (s.setQueueing false)).2.setReg .a (pop (s.setQueueing false)).1)]
  rw [pop_state (s.setQueueing false)]
  have h : s.sp + 2#16 + 2#16 = s.sp + 4#16 := by bv_omega
  simp [State.setQueueing, State.setBus, State.setSp, State.setPc, State.setReg, State.setGpr, h]

/-- What a boundary can do: nothing, discard the head message, or enter the handler with it (R305 to R307). -/
theorem boundary_cases (s : State) :
    boundary s = s ∨
    ∃ msg rest, s.queue = msg :: rest ∧ mayTrigger s = true ∧
      ((s.ia = 0#16 ∧ boundary s = s.setQueue rest) ∨
       (s.ia ≠ 0#16 ∧ boundary s = enterInterrupt msg (s.setQueue rest))) := by
  cases hq : s.queue with
  | nil => exact .inl (by simp [boundary, hq])
  | cons msg rest =>
    by_cases hm : mayTrigger s = true
    · refine .inr ⟨msg, rest, rfl, hm, ?_⟩
      by_cases hi : s.ia = 0#16
      · exact .inl ⟨hi, by simp [boundary, hq, hm, trigger, hi]⟩
      · exact .inr ⟨hi, by simp [boundary, hq, hm, trigger, hi]⟩
    · exact .inl (by simp [boundary, hq, hm])

/-- When a message may be triggered (R305). -/
theorem mayTrigger_iff (s : State) :
    mayTrigger s = true ↔
      (s.run = .running ∨ s.run = .sleeping) ∧ s.queueing = false ∧ s.skipping = false ∧ s.mask = .none := by
  simp [mayTrigger, and_assoc]

/-- Delivering messages changes the queue, and sets the machine on fire if it overflows (R302, R304). -/
theorem foldl_enqueue_eq (msgs : List Word) (s : State) :
    ∃ q r, msgs.foldl (fun t m => enqueue m t) s = (s.setQueue q).setRun r ∧ (r = s.run ∨ r = .onFire) ∧
      (s.queue.length ≤ 256 → q.length ≤ 256) := by
  induction msgs generalizing s with
  | nil => exact ⟨s.queue, s.run, rfl, .inl rfl, fun h => h⟩
  | cons m rest ih =>
    rw [List.foldl_cons]
    obtain ⟨q, r, he, hr, hl⟩ := ih (enqueue m s)
    rcases enqueue_cases m s with ⟨hlt, hc⟩ | ⟨-, hc⟩ <;> rw [hc] at he hr hl ⊢
    · exact ⟨q, r, he, hr, fun _ => hl (by simp; omega)⟩
    · refine ⟨q, r, he, .inr ?_, fun h => hl h⟩
      rcases hr with hr | hr <;> exact hr

/-- The messages of a moment the state does not fix are a free value (R302; log 7). -/
theorem arriving_nil {s : State} (h : s.arrivals = []) :
    arriving s = (Config.hwMessages s.bus s.moment, s.setMoment (s.moment + 1)) := by simp only [arriving, h]

/-- The messages of a moment the state fixes. -/
theorem arriving_cons {s : State} {now : List Word} {later : List (List Word)} (h : s.arrivals = now :: later) :
    arriving s = (now, s.setArrivals later) := by simp only [arriving, h]

/-- A moment's end changes the schedule and its counter. -/
theorem arriving_eq (s : State) : ∃ l n, (arriving s).2 = (s.setArrivals l).setMoment n := by
  cases h : s.arrivals with
  | nil => exact ⟨s.arrivals, s.moment + 1, by rw [arriving_nil h]; rfl⟩
  | cons now later => exact ⟨later, s.moment, by rw [arriving_cons h]; rfl⟩

/-- What the delivery of the arriving messages can do. -/
theorem deliverArrivals_eq (s : State) :
    ∃ q r l n, deliverArrivals s = (((s.setArrivals l).setMoment n).setQueue q).setRun r ∧ (r = s.run ∨ r = .onFire) ∧
      (s.queue.length ≤ 256 → q.length ≤ 256) := by
  obtain ⟨l, n, ha⟩ := arriving_eq s
  obtain ⟨q, r, he, hr, hl⟩ := foldl_enqueue_eq (arriving s).1 (arriving s).2
  rw [ha] at he hr hl
  exact ⟨q, r, l, n, by rw [deliverArrivals, ha]; exact he, hr, hl⟩

/-- What runs after a boundary ran or slept before it (R305, R307). -/
theorem run_of_boundary_running {s : State} (h : (boundary s).run = .running) : s.run = .running ∨ s.run = .sleeping := by
  rcases boundary_cases s with e | ⟨_, _, _, hm, _⟩
  · exact .inl (e ▸ h)
  · exact ((mayTrigger_iff s).1 hm).1

/-- What sleeps after a boundary slept before it (R305, R307). -/
theorem run_of_boundary_sleeping {s : State} (h : (boundary s).run = .sleeping) : s.run = .sleeping := by
  rcases boundary_cases s with e | ⟨_, _, _, _, ⟨_, e⟩ | ⟨_, e⟩⟩
  · exact e ▸ h
  · rw [e] at h; exact h
  · rw [e, enterInterrupt_eq] at h; cases h

/-- A delivery leaves `run` alone or sets the machine on fire (R304). -/
theorem run_of_deliverArrivals {s : State} (h : (deliverArrivals s).run ≠ .onFire) : (deliverArrivals s).run = s.run := by
  obtain ⟨q, r, l, n, he, hr, -⟩ := deliverArrivals_eq s
  rw [he] at h ⊢
  exact hr.resolve_right h

/-- What skipping an instruction can do (R203). -/
theorem skipInstr_cases (pc0 w : Word) (s : State) :
    (isConditionalWord w = true ∧ skipInstr pc0 w s = s.setPc (pc0 + BitVec.ofNat 16 (2 * wordLength w))) ∨
    (isConditionalWord w = false ∧ skipInstr pc0 w s =
      ((s.setPc (pc0 + BitVec.ofNat 16 (2 * wordLength w))).setSkipping false).setMask .none) := by
  cases h : isConditionalWord w
  · exact .inr ⟨rfl, by simp [skipInstr, h]⟩
  · exact .inl ⟨rfl, by simp [skipInstr, h]⟩

end Sys2Proof.Machine
end

