-- ==== Sys2Proof/Laws/Operands.lean ====
section
/-! SUPPORT. What resolving, reading, handling and writing an operand can do (40_operands.md), said once. -/

namespace Sys2Proof.Machine

/-- What handling operand a adds to SP: 2 for POP (R127). -/
def popBump : Operand → Word
  | .stack => 2#16
  | _ => 0#16

/-- What handling operand b adds to SP: -2 for PUSH (R126). -/
def pushBump : Operand → Word
  | .stack => 0xfffe#16
  | _ => 0#16

/-- The state after an operand has been resolved or handled: PC past its next word, SP moved, at most the trace
besides. -/
def handledState (s : State) (o : Operand) (bump : Word) (l : List BusEvent) : State :=
  ((s.setBus l).setPc (s.pc + BitVec.ofNat 16 (2 * o.nextWords))).setSp (s.sp + bump)

section
variable (s : State) (o : Operand) (d : Word) (l : List BusEvent)
@[simp] theorem handledState_gpr : (handledState s o d l).gpr = s.gpr := rfl
@[simp] theorem handledState_reg (r : Reg) : (handledState s o d l).reg r = s.reg r := rfl
@[simp] theorem handledState_pc :
    (handledState s o d l).pc = s.pc + BitVec.ofNat 16 (2 * o.nextWords) := rfl
@[simp] theorem handledState_sp : (handledState s o d l).sp = s.sp + d := rfl
@[simp] theorem handledState_ex : (handledState s o d l).ex = s.ex := rfl
@[simp] theorem handledState_ia : (handledState s o d l).ia = s.ia := rfl
@[simp] theorem handledState_skipping : (handledState s o d l).skipping = s.skipping := rfl
@[simp] theorem handledState_queueing : (handledState s o d l).queueing = s.queueing := rfl
@[simp] theorem handledState_mask : (handledState s o d l).mask = s.mask := rfl
@[simp] theorem handledState_queue : (handledState s o d l).queue = s.queue := rfl
@[simp] theorem handledState_emu : (handledState s o d l).emu = s.emu := rfl
@[simp] theorem handledState_run : (handledState s o d l).run = s.run := rfl
@[simp] theorem handledState_mem : (handledState s o d l).mem = s.mem := rfl
@[simp] theorem handledState_physMap : (handledState s o d l).physMap = s.physMap := rfl
@[simp] theorem handledState_bus : (handledState s o d l).bus = l := rfl
@[simp] theorem handledState_arrivals : (handledState s o d l).arrivals = s.arrivals := rfl
@[simp] theorem handledState_moment : (handledState s o d l).moment = s.moment := rfl
end

theorem handledState_zero (s : State) (o : Operand) (h : o.nextWords = 0) :
    handledState s o 0#16 s.bus = s := by
  simp [handledState, h]

theorem resolveWith_state {stack : State → Loc × State} {o : Operand} (s : State) (h : o ≠ .stack) :
    (resolveWith stack o s).2 = handledState s o 0#16 (resolveWith stack o s).2.bus := by
  cases o with
  | stack => exact absurd rfl h
  | indNext r => simp only [resolveWith]; rw [fetch16_state s]; simp [handledState, Operand.nextWords]; rfl
  | pick => simp only [resolveWith]; rw [fetch16_state s]; simp [handledState, Operand.nextWords]; rfl
  | absNext => simp only [resolveWith]; rw [fetch16_state s]; simp [handledState, Operand.nextWords]; rfl
  | litNext => simp only [resolveWith]; rw [fetch16_state s]; simp [handledState, Operand.nextWords]; rfl
  | _ => exact (handledState_zero s _ rfl).symm

/-- Resolving operand a (R121). -/
theorem resolveA_state (o : Operand) (s : State) :
    (resolveA o s).2 = handledState s o (popBump o) (resolveA o s).2.bus := by
  by_cases h : o = .stack
  · subst h; simp [resolveA, resolveWith, resolvePop, handledState, popBump, Operand.nextWords]
  · have hb : popBump o = 0#16 := by cases o <;> simp_all [popBump]
    rw [hb]; exact resolveWith_state s h

/-- Resolving operand b (R122). -/
theorem resolveB_state (o : Operand) (s : State) :
    (resolveB o s).2 = handledState s o (pushBump o) (resolveB o s).2.bus := by
  by_cases h : o = .stack
  · subst h
    have : s.sp - 2#16 = s.sp + 0xfffe#16 := by bv_omega
    simp [resolveB, resolveWith, resolvePush, handledState, pushBump, Operand.nextWords, this]
  · have hb : pushBump o = 0#16 := by cases o <;> simp_all [pushBump]
    rw [hb]; exact resolveWith_state s h

/-- Reading a location changes at most the trace (R133). -/
theorem readLoc_state (l : Loc) (s : State) : (readLoc l s).2 = s.setBus (readLoc l s).2.bus := by
  cases l with
  | mem addr => exact readWord_state addr s
  | _ => rfl

/-- Handling operand a (R120): PC past its next word, SP up by two for POP, at most the trace besides. -/
theorem handleA_state (o : Operand) (s : State) :
    (handleA o s).state = handledState s o (popBump o) (handleA o s).state.bus := by
  have h := readLoc_state (resolveA o s).1 (resolveA o s).2
  have h0 := resolveA_state o s
  simp only [handleA, handleLoc]
  rw [h, h0]; rfl

/-- Handling operand b (R120): PC past its next word, SP down by two for PUSH, at most the trace besides. -/
theorem handleB_state (o : Operand) (s : State) :
    (handleB o s).state = handledState s o (pushBump o) (handleB o s).state.bus := by
  have h := readLoc_state (resolveB o s).1 (resolveB o s).2
  have h0 := resolveB_state o s
  simp only [handleB, handleLoc]
  rw [h, h0]; rfl

/-- The octets a write to a location stores are different physical octets. -/
theorem locStores_pairwise (s : State) (l : Loc) (v : Word) (m : ByteMask) :
    (locStores l v m).Pairwise fun c d => storePhys s c ≠ storePhys s d := by
  cases l <;> cases m <;> simp [locStores, wordStores_pairwise]

/-- What a write to a location can do (R134): one register merged, or octets stored, or nothing. -/
theorem writeLoc_eq (l : Loc) (v : Word) (m : ByteMask) (s : State) :
    writeLoc l v m s =
      match l with
      | .reg r => s.setReg r (maskMerge m (s.reg r) v)
      | .sp => s.setSp (maskMerge m s.sp v)
      | .pc => s.setPc (maskMerge m s.pc v)
      | .ex => s.setEx (maskMerge m s.ex v)
      | .mem addr => (s.setMem (memAfterAll s (locStores (.mem addr) v m))).setBus
          (deviceWrites s (locStores (.mem addr) v m) ++ s.bus)
      | .lit _ => s := by
  cases l with
  | mem addr =>
    simp only [writeLoc, ← busAfterAll_eq]
    cases m
    · exact writeWord_eq addr v s
    · exact writeOctet_eq addr (lo8 v) s
    · exact writeOctet_eq (addr + 1#16) (hi8 v) s
  | _ => rfl

end Sys2Proof.Machine
end

