-- ==== Sys2Proof/Laws/Frames.lean ====
section
/-! SUPPORT. What the common frames of the instruction families can do (41_basic_alu.md R150, 42_conditionals.md R200,
44_special.md R230), each said once over the observations of Safety.lean. -/

namespace Sys2Proof.Machine

/-- `h` is `s` with another PC, SP and bus trace: what handling operands does to a state. -/
def MovedOnly (s h : State) : Prop := h = ((s.setBus h.bus).setPc h.pc).setSp h.sp

theorem MovedOnly.refl (s : State) : MovedOnly s s := rfl

theorem MovedOnly.trans {s h k : State} (a : MovedOnly s h) (b : MovedOnly h k) : MovedOnly s k := by
  rw [MovedOnly] at a b ⊢
  rw [b, a]; rfl

theorem handledState_moved (s : State) (o : Operand) (d : Word) (l : List BusEvent) :
    MovedOnly s (handledState s o d l) := rfl

theorem handleA_moved (o : Operand) (s : State) : MovedOnly s (handleA o s).state := by
  rw [handleA_state]; exact handledState_moved ..

theorem handleB_moved (o : Operand) (s : State) : MovedOnly s (handleB o s).state := by
  rw [handleB_state]; exact handledState_moved ..

theorem resolveA_moved (o : Operand) (s : State) : MovedOnly s (resolveA o s).2 := by
  rw [resolveA_state]; exact handledState_moved ..

theorem resolveB_moved (o : Operand) (s : State) : MovedOnly s (resolveB o s).2 := by
  rw [resolveB_state]; exact handledState_moved ..

/-- A register, PC, SP or trace write that handling and the frames do: the fields a moved state shares. -/
theorem MovedOnly.fields {s h : State} (m : MovedOnly s h) :
    h.gpr = s.gpr ∧ h.ex = s.ex ∧ h.ia = s.ia ∧ h.skipping = s.skipping ∧ h.queueing = s.queueing ∧
      h.mask = s.mask ∧ h.queue = s.queue ∧ h.emu = s.emu ∧ h.run = s.run ∧ h.mem = s.mem ∧
      h.physMap = s.physMap ∧ h.arrivals = s.arrivals ∧ h.moment = s.moment := by
  rw [m]; simp

/-- Writing a destination after handling does what `Wrote` says (R134), whatever EX has become. -/
theorem wrote_writeLoc {s h : State} (mv : MovedOnly s h) (l : Loc) (v ex : Word) (m : ByteMask) :
    Wrote s h (writeLoc l v m (h.setEx ex)) l v ex m := by
  obtain ⟨hg, -, hia, hsk, hqg, -, hq, he, hr, hm, hp, har, hmo⟩ := mv.fields
  have hreg : ∀ q, h.reg q = s.reg q := fun q => by simp only [State.reg, hg]
  have hall : ∀ st, memAfterAll (h.setEx ex) st = memAfterAll s st := fun st => by
    simp only [memAfterAll, State.setEx_emu, State.setEx_physMap, State.setEx_mem, he, hp, hm]
  have hdev : ∀ st, deviceWrites (h.setEx ex) st = deviceWrites s st := fun st => by
    simp only [deviceWrites, storeKind, storePhys, State.setEx_emu, State.setEx_physMap, he, hp]
  have hsto : ∀ t : State, t.mem = h.mem → Stored s t [] := fun t ht =>
    stored_memAfterAll s t [] List.Pairwise.nil (by rw [ht, hm]; rfl)
  rw [writeLoc_eq]
  cases l with
  | mem addr =>
    refine ⟨fun q => ?_, rfl, rfl, rfl, ?_, ?_, ?_⟩
    · simp [hreg]
    · exact stored_memAfterAll s _ _ (locStores_pairwise ..) (by simp [hall])
    · simp [hdev]
    · simp [SameControl, *]
  | reg r =>
    refine ⟨fun q => ?_, by simp, by simp, by simp, hsto _ rfl, rfl, by simp [SameControl, *]⟩
    simp only [State.setReg_reg, Loc.reg.injEq, State.setEx_reg, hreg]
    split
    · next e => rw [e]
    · rfl
  | sp => exact ⟨fun q => by simp [hreg], by simp, by simp, by simp, hsto _ rfl, rfl, by simp [SameControl, *]⟩
  | pc => exact ⟨fun q => by simp [hreg], by simp, by simp, by simp, hsto _ rfl, rfl, by simp [SameControl, *]⟩
  | ex => exact ⟨fun q => by simp [hreg], by simp, by simp, by simp, hsto _ rfl, rfl, by simp [SameControl, *]⟩
  | lit w => exact ⟨fun q => by simp [hreg], by simp, by simp, by simp, hsto _ rfl, rfl, by simp [SameControl, *]⟩

/-- The same for an instruction that does not write EX. -/
theorem wrote_writeLoc_same_ex {s h : State} (mv : MovedOnly s h) (l : Loc) (v : Word) (m : ByteMask) :
    Wrote s h (writeLoc l v m h) l v s.ex m := by
  have := wrote_writeLoc mv l v s.ex m
  rwa [show h.setEx s.ex = h from by rw [← mv.fields.2.1]; rfl] at this

theorem Wrote.setMask {s h t : State} {l : Loc} {v ex : Word} {m : ByteMask} (w : Wrote s h t l v ex m)
    (k : ByteMask) : Wrote s h (t.setMask k) l v ex m := w

/-- What an instruction of the frame R150 can do: EX takes the extra value, or keeps its own, and then the result is
written. -/
theorem performAlu_spec (f : Word → Word → Word → AluOut) (b a : Operand) (s : State) :
    ∃ t, performAlu f b a s = .next t ∧ t.mask = .none ∧
      Wrote s (handleB b (handleA a s).state).state t (handleB b (handleA a s).state).loc
        (f (handleB b (handleA a s).state).value (handleA a s).value s.ex).r
        ((f (handleB b (handleA a s).state).value (handleA a s).value s.ex).ex.getD s.ex) s.mask := by
  have mv := (handleA_moved a s).trans (handleB_moved b (handleA a s).state)
  refine ⟨_, rfl, rfl, Wrote.setMask ?_ _⟩
  rw [mv.fields.2.1]
  generalize f _ _ _ = out
  cases h : out.ex with
  | none => exact wrote_writeLoc_same_ex mv _ _ _
  | some e => exact wrote_writeLoc mv _ _ _ _

/-- What a move can do before its further effect (R150). -/
theorem performMove_spec (after : State → State) (b a : Operand) (s : State) :
    ∃ u, performMove after b a s = .next ((after u).setMask .none) ∧
      Wrote s (resolveB b (handleA a s).state).2 u (resolveB b (handleA a s).state).1 (handleA a s).value s.ex
        s.mask :=
  ⟨_, rfl, wrote_writeLoc_same_ex ((handleA_moved a s).trans (resolveB_moved b (handleA a s).state)) _ _ _⟩

/-- What an instruction that reads and writes a can do (R230). -/
theorem performUnary_spec (f : State → Word → Word) (a : Operand) (s : State) :
    ∃ t, performUnary f a s = .next t ∧ t.mask = .none ∧
      Wrote s (handleA a s).state t (handleA a s).loc (f (handleA a s).state (handleA a s).value) s.ex s.mask :=
  ⟨_, rfl, rfl, Wrote.setMask (wrote_writeLoc_same_ex (handleA_moved a s) _ _ _) _⟩

/-- A moved state, with the mask and `skipping` changed, is what `OnlyHandled` says. -/
theorem onlyHandled_of_moved {s h : State} (mv : MovedOnly s h) (m : ByteMask) (sk : Bool) :
    OnlyHandled s h ((h.setSkipping sk).setMask m) m sk := by
  obtain ⟨hg, hex, hia, -, hqg, -, hq, he, hr, hm, hp, har, hmo⟩ := mv.fields
  refine ⟨fun q => by simp [State.reg, hg], rfl, rfl, hex, ?_, rfl, rfl, rfl, hia, hqg, hq, he, hr, hp, har, hmo⟩
  exact stored_memAfterAll s _ [] List.Pairwise.nil (by simp [hm]; rfl)

/-- A moved state at the end of an instruction, its mask used up. -/
theorem onlyHandled_finish {s h : State} (mv : MovedOnly s h) :
    OnlyHandled s h (h.setMask .none) .none s.skipping := by
  have := onlyHandled_of_moved mv .none s.skipping
  rwa [← mv.fields.2.2.2.1] at this ⊢

/-- What STI and STD do after their write: I and J moved by one (R174, R175). -/
theorem stepPointers_eq (d : Word) (s : State) :
    stepPointers d s = (s.setReg .i (s.reg .i + d)).setReg .j (s.reg .j + d) := by
  simp [stepPointers, State.setReg_reg]

/-- What a conditional can do (R200): only the operands are handled, and `skipping` is set when the test fails. -/
theorem performIf_spec (test : Word → Word → Bool) (b a : Operand) (s : State) :
    ∃ t, performIf test b a s = .next t ∧
      OnlyHandled s (handleB b (handleA a s).state).state t s.mask
        (if test (handleB b (handleA a s).state).value (handleA a s).value then s.skipping else true) := by
  have mv := (handleA_moved a s).trans (handleB_moved b (handleA a s).state)
  obtain ⟨-, -, -, hsk, -, hmk, -⟩ := mv.fields
  refine ⟨_, rfl, ?_⟩
  split
  · have := onlyHandled_of_moved mv s.mask s.skipping
    rwa [← hsk, ← hmk] at this ⊢
  · have := onlyHandled_of_moved mv s.mask true
    rwa [← hmk] at this ⊢

end Sys2Proof.Machine
end

