-- ==== Sys2Proof/Laws/PerInstr.lean ====
section
/-! SUPPORT. Statements about every instruction, one lemma per constructor. The family EncodedLength: the length that the
first word alone says (30_encoding.md R95, R108) is the length of the instruction it encodes. -/

namespace Sys2Proof.Laws

/-- The first word of a well-formed instruction says the instruction's length. -/
def EncodedLength.Statement (i : Instr) : Prop := i.wf = true → wordLength (encode i) = i.length

theorem EncodedLength.set (b a : Operand) : EncodedLength.Statement (.set b a) :=
  fun h => wordLength_basicWord (by decide) h
theorem EncodedLength.add (b a : Operand) : EncodedLength.Statement (.add b a) :=
  fun h => wordLength_basicWord (by decide) h
theorem EncodedLength.sub (b a : Operand) : EncodedLength.Statement (.sub b a) :=
  fun h => wordLength_basicWord (by decide) h
theorem EncodedLength.mul (b a : Operand) : EncodedLength.Statement (.mul b a) :=
  fun h => wordLength_basicWord (by decide) h
theorem EncodedLength.mli (b a : Operand) : EncodedLength.Statement (.mli b a) :=
  fun h => wordLength_basicWord (by decide) h
theorem EncodedLength.div (b a : Operand) : EncodedLength.Statement (.div b a) :=
  fun h => wordLength_basicWord (by decide) h
theorem EncodedLength.dvi (b a : Operand) : EncodedLength.Statement (.dvi b a) :=
  fun h => wordLength_basicWord (by decide) h
theorem EncodedLength.mod (b a : Operand) : EncodedLength.Statement (.mod b a) :=
  fun h => wordLength_basicWord (by decide) h
theorem EncodedLength.mdi (b a : Operand) : EncodedLength.Statement (.mdi b a) :=
  fun h => wordLength_basicWord (by decide) h
theorem EncodedLength.and (b a : Operand) : EncodedLength.Statement (.and b a) :=
  fun h => wordLength_basicWord (by decide) h
theorem EncodedLength.bor (b a : Operand) : EncodedLength.Statement (.bor b a) :=
  fun h => wordLength_basicWord (by decide) h
theorem EncodedLength.xor (b a : Operand) : EncodedLength.Statement (.xor b a) :=
  fun h => wordLength_basicWord (by decide) h
theorem EncodedLength.shr (b a : Operand) : EncodedLength.Statement (.shr b a) :=
  fun h => wordLength_basicWord (by decide) h
theorem EncodedLength.asr (b a : Operand) : EncodedLength.Statement (.asr b a) :=
  fun h => wordLength_basicWord (by decide) h
theorem EncodedLength.shl (b a : Operand) : EncodedLength.Statement (.shl b a) :=
  fun h => wordLength_basicWord (by decide) h
theorem EncodedLength.ifb (b a : Operand) : EncodedLength.Statement (.ifb b a) :=
  fun h => wordLength_basicWord (by decide) h
theorem EncodedLength.ifc (b a : Operand) : EncodedLength.Statement (.ifc b a) :=
  fun h => wordLength_basicWord (by decide) h
theorem EncodedLength.ife (b a : Operand) : EncodedLength.Statement (.ife b a) :=
  fun h => wordLength_basicWord (by decide) h
theorem EncodedLength.ifn (b a : Operand) : EncodedLength.Statement (.ifn b a) :=
  fun h => wordLength_basicWord (by decide) h
theorem EncodedLength.ifg (b a : Operand) : EncodedLength.Statement (.ifg b a) :=
  fun h => wordLength_basicWord (by decide) h
theorem EncodedLength.ifa (b a : Operand) : EncodedLength.Statement (.ifa b a) :=
  fun h => wordLength_basicWord (by decide) h
theorem EncodedLength.ifl (b a : Operand) : EncodedLength.Statement (.ifl b a) :=
  fun h => wordLength_basicWord (by decide) h
theorem EncodedLength.ifu (b a : Operand) : EncodedLength.Statement (.ifu b a) :=
  fun h => wordLength_basicWord (by decide) h
theorem EncodedLength.reservedBasic18 (b a : Operand) : EncodedLength.Statement (.reservedBasic18 b a) :=
  fun h => wordLength_basicWord (by decide) h
theorem EncodedLength.reservedBasic19 (b a : Operand) : EncodedLength.Statement (.reservedBasic19 b a) :=
  fun h => wordLength_basicWord (by decide) h
theorem EncodedLength.adx (b a : Operand) : EncodedLength.Statement (.adx b a) :=
  fun h => wordLength_basicWord (by decide) h
theorem EncodedLength.sbx (b a : Operand) : EncodedLength.Statement (.sbx b a) :=
  fun h => wordLength_basicWord (by decide) h
theorem EncodedLength.hww (b a : Operand) : EncodedLength.Statement (.hww b a) :=
  fun h => wordLength_basicWord (by decide) h
theorem EncodedLength.hwr (b a : Operand) : EncodedLength.Statement (.hwr b a) :=
  fun h => wordLength_basicWord (by decide) h
theorem EncodedLength.sti (b a : Operand) : EncodedLength.Statement (.sti b a) :=
  fun h => wordLength_basicWord (by decide) h
theorem EncodedLength.std (b a : Operand) : EncodedLength.Statement (.std b a) :=
  fun h => wordLength_basicWord (by decide) h
theorem EncodedLength.jsr (a : Operand) : EncodedLength.Statement (.jsr a) :=
  fun _ => wordLength_specialWord a (by decide)
theorem EncodedLength.bsr (a : Operand) : EncodedLength.Statement (.bsr a) :=
  fun _ => wordLength_specialWord a (by decide)
theorem EncodedLength.reservedSpecial03 (a : Operand) : EncodedLength.Statement (.reservedSpecial03 a) :=
  fun _ => wordLength_specialWord a (by decide)
theorem EncodedLength.reservedSpecial04 (a : Operand) : EncodedLength.Statement (.reservedSpecial04 a) :=
  fun _ => wordLength_specialWord a (by decide)
theorem EncodedLength.neg (a : Operand) : EncodedLength.Statement (.neg a) :=
  fun _ => wordLength_specialWord a (by decide)
theorem EncodedLength.reservedSpecial06 (a : Operand) : EncodedLength.Statement (.reservedSpecial06 a) :=
  fun _ => wordLength_specialWord a (by decide)
theorem EncodedLength.hcf (a : Operand) : EncodedLength.Statement (.hcf a) :=
  fun _ => wordLength_specialWord a (by decide)
theorem EncodedLength.int (a : Operand) : EncodedLength.Statement (.int a) :=
  fun _ => wordLength_specialWord a (by decide)
theorem EncodedLength.iag (a : Operand) : EncodedLength.Statement (.iag a) :=
  fun _ => wordLength_specialWord a (by decide)
theorem EncodedLength.ias (a : Operand) : EncodedLength.Statement (.ias a) :=
  fun _ => wordLength_specialWord a (by decide)
theorem EncodedLength.rfi (a : Operand) : EncodedLength.Statement (.rfi a) :=
  fun _ => wordLength_specialWord a (by decide)
theorem EncodedLength.iaq (a : Operand) : EncodedLength.Statement (.iaq a) :=
  fun _ => wordLength_specialWord a (by decide)
theorem EncodedLength.reservedSpecial0d (a : Operand) : EncodedLength.Statement (.reservedSpecial0d a) :=
  fun _ => wordLength_specialWord a (by decide)
theorem EncodedLength.mmw (a : Operand) : EncodedLength.Statement (.mmw a) :=
  fun _ => wordLength_specialWord a (by decide)
theorem EncodedLength.mmr (a : Operand) : EncodedLength.Statement (.mmr a) :=
  fun _ => wordLength_specialWord a (by decide)
theorem EncodedLength.reservedSpecial10 (a : Operand) : EncodedLength.Statement (.reservedSpecial10 a) :=
  fun _ => wordLength_specialWord a (by decide)
theorem EncodedLength.reservedSpecial11 (a : Operand) : EncodedLength.Statement (.reservedSpecial11 a) :=
  fun _ => wordLength_specialWord a (by decide)
theorem EncodedLength.reservedSpecial12 (a : Operand) : EncodedLength.Statement (.reservedSpecial12 a) :=
  fun _ => wordLength_specialWord a (by decide)
theorem EncodedLength.reservedSpecial13 (a : Operand) : EncodedLength.Statement (.reservedSpecial13 a) :=
  fun _ => wordLength_specialWord a (by decide)
theorem EncodedLength.sxb (a : Operand) : EncodedLength.Statement (.sxb a) :=
  fun _ => wordLength_specialWord a (by decide)
theorem EncodedLength.swp (a : Operand) : EncodedLength.Statement (.swp a) :=
  fun _ => wordLength_specialWord a (by decide)
theorem EncodedLength.reservedSpecial16 (a : Operand) : EncodedLength.Statement (.reservedSpecial16 a) :=
  fun _ => wordLength_specialWord a (by decide)
theorem EncodedLength.reservedSpecial17 (a : Operand) : EncodedLength.Statement (.reservedSpecial17 a) :=
  fun _ => wordLength_specialWord a (by decide)
theorem EncodedLength.reservedSpecial18 (a : Operand) : EncodedLength.Statement (.reservedSpecial18 a) :=
  fun _ => wordLength_specialWord a (by decide)
theorem EncodedLength.reservedSpecial19 (a : Operand) : EncodedLength.Statement (.reservedSpecial19 a) :=
  fun _ => wordLength_specialWord a (by decide)
theorem EncodedLength.reservedSpecial1a (a : Operand) : EncodedLength.Statement (.reservedSpecial1a a) :=
  fun _ => wordLength_specialWord a (by decide)
theorem EncodedLength.reservedSpecial1b (a : Operand) : EncodedLength.Statement (.reservedSpecial1b a) :=
  fun _ => wordLength_specialWord a (by decide)
theorem EncodedLength.reservedSpecial1c (a : Operand) : EncodedLength.Statement (.reservedSpecial1c a) :=
  fun _ => wordLength_specialWord a (by decide)
theorem EncodedLength.reservedSpecial1d (a : Operand) : EncodedLength.Statement (.reservedSpecial1d a) :=
  fun _ => wordLength_specialWord a (by decide)
theorem EncodedLength.reservedSpecial1e (a : Operand) : EncodedLength.Statement (.reservedSpecial1e a) :=
  fun _ => wordLength_specialWord a (by decide)
theorem EncodedLength.reservedSpecial1f (a : Operand) : EncodedLength.Statement (.reservedSpecial1f a) :=
  fun _ => wordLength_specialWord a (by decide)
theorem EncodedLength.hlt (v : Bool) : EncodedLength.Statement (.hlt v) :=
  fun _ => wordLength_impliedWord _ v
theorem EncodedLength.slp (v : Bool) : EncodedLength.Statement (.slp v) :=
  fun _ => wordLength_impliedWord _ v
theorem EncodedLength.reservedImplied02 (v : Bool) : EncodedLength.Statement (.reservedImplied02 v) :=
  fun _ => wordLength_impliedWord _ v
theorem EncodedLength.reservedImplied03 (v : Bool) : EncodedLength.Statement (.reservedImplied03 v) :=
  fun _ => wordLength_impliedWord _ v
theorem EncodedLength.byt (v : Bool) : EncodedLength.Statement (.byt v) :=
  fun _ => wordLength_impliedWord _ v
theorem EncodedLength.reservedImplied05 (v : Bool) : EncodedLength.Statement (.reservedImplied05 v) :=
  fun _ => wordLength_impliedWord _ v
theorem EncodedLength.reservedImplied06 (v : Bool) : EncodedLength.Statement (.reservedImplied06 v) :=
  fun _ => wordLength_impliedWord _ v
theorem EncodedLength.reservedImplied07 (v : Bool) : EncodedLength.Statement (.reservedImplied07 v) :=
  fun _ => wordLength_impliedWord _ v
theorem EncodedLength.reservedImplied08 (v : Bool) : EncodedLength.Statement (.reservedImplied08 v) :=
  fun _ => wordLength_impliedWord _ v
theorem EncodedLength.reservedImplied09 (v : Bool) : EncodedLength.Statement (.reservedImplied09 v) :=
  fun _ => wordLength_impliedWord _ v
theorem EncodedLength.reservedImplied0a (v : Bool) : EncodedLength.Statement (.reservedImplied0a v) :=
  fun _ => wordLength_impliedWord _ v
theorem EncodedLength.reservedImplied0b (v : Bool) : EncodedLength.Statement (.reservedImplied0b v) :=
  fun _ => wordLength_impliedWord _ v
theorem EncodedLength.reservedImplied0c (v : Bool) : EncodedLength.Statement (.reservedImplied0c v) :=
  fun _ => wordLength_impliedWord _ v
theorem EncodedLength.reservedImplied0d (v : Bool) : EncodedLength.Statement (.reservedImplied0d v) :=
  fun _ => wordLength_impliedWord _ v
theorem EncodedLength.reservedImplied0e (v : Bool) : EncodedLength.Statement (.reservedImplied0e v) :=
  fun _ => wordLength_impliedWord _ v
theorem EncodedLength.reservedImplied0f (v : Bool) : EncodedLength.Statement (.reservedImplied0f v) :=
  fun _ => wordLength_impliedWord _ v
theorem EncodedLength.skp (v : Bool) : EncodedLength.Statement (.skp v) :=
  fun _ => wordLength_impliedWord _ v
theorem EncodedLength.reservedImplied11 (v : Bool) : EncodedLength.Statement (.reservedImplied11 v) :=
  fun _ => wordLength_impliedWord _ v
theorem EncodedLength.reservedImplied12 (v : Bool) : EncodedLength.Statement (.reservedImplied12 v) :=
  fun _ => wordLength_impliedWord _ v
theorem EncodedLength.reservedImplied13 (v : Bool) : EncodedLength.Statement (.reservedImplied13 v) :=
  fun _ => wordLength_impliedWord _ v
theorem EncodedLength.reservedImplied14 (v : Bool) : EncodedLength.Statement (.reservedImplied14 v) :=
  fun _ => wordLength_impliedWord _ v
theorem EncodedLength.reservedImplied15 (v : Bool) : EncodedLength.Statement (.reservedImplied15 v) :=
  fun _ => wordLength_impliedWord _ v
theorem EncodedLength.reservedImplied16 (v : Bool) : EncodedLength.Statement (.reservedImplied16 v) :=
  fun _ => wordLength_impliedWord _ v
theorem EncodedLength.reservedImplied17 (v : Bool) : EncodedLength.Statement (.reservedImplied17 v) :=
  fun _ => wordLength_impliedWord _ v
theorem EncodedLength.reservedImplied18 (v : Bool) : EncodedLength.Statement (.reservedImplied18 v) :=
  fun _ => wordLength_impliedWord _ v
theorem EncodedLength.reservedImplied19 (v : Bool) : EncodedLength.Statement (.reservedImplied19 v) :=
  fun _ => wordLength_impliedWord _ v
theorem EncodedLength.reservedImplied1a (v : Bool) : EncodedLength.Statement (.reservedImplied1a v) :=
  fun _ => wordLength_impliedWord _ v
theorem EncodedLength.reservedImplied1b (v : Bool) : EncodedLength.Statement (.reservedImplied1b v) :=
  fun _ => wordLength_impliedWord _ v
theorem EncodedLength.reservedImplied1c (v : Bool) : EncodedLength.Statement (.reservedImplied1c v) :=
  fun _ => wordLength_impliedWord _ v
theorem EncodedLength.reservedImplied1d (v : Bool) : EncodedLength.Statement (.reservedImplied1d v) :=
  fun _ => wordLength_impliedWord _ v
theorem EncodedLength.reservedImplied1e (v : Bool) : EncodedLength.Statement (.reservedImplied1e v) :=
  fun _ => wordLength_impliedWord _ v
theorem EncodedLength.reservedImplied1f (v : Bool) : EncodedLength.Statement (.reservedImplied1f v) :=
  fun _ => wordLength_impliedWord _ v

end Sys2Proof.Laws
end

