-- ==== Sys2Proof/Laws/Step.lean ====
section
/-! SUPPORT. What a step can do, said once (70_reset_and_hazards.md R354). -/

namespace Sys2Proof.Machine

/-- The step of a machine that runs or sleeps: the delivery, and, unless it sets the machine on fire, the boundary and then one
instruction. -/
theorem step_live {s : State} (h : s.run = .running ∨ s.run = .sleeping) :
    step s = if (deliverArrivals s).run = .onFire then .next (deliverArrivals s)
      else stepInstr (boundary (deliverArrivals s)) := by
  rcases h with h | h <;> simp only [step, h]

/-- A step whose boundary leaves the CPU running or asleep is what follows the boundary. -/
theorem step_after_boundary {s : State}
    (h : (boundary (deliverArrivals s)).run = .running ∨ (boundary (deliverArrivals s)).run = .sleeping) :
    step s = stepInstr (boundary (deliverArrivals s)) := by
  have hd : (deliverArrivals s).run = .running ∨ (deliverArrivals s).run = .sleeping :=
    h.elim run_of_boundary_running fun h => .inr (run_of_boundary_sleeping h)
  have hf : (deliverArrivals s).run ≠ .onFire := by rcases hd with hd | hd <;> simp [hd]
  rw [step_live (run_of_deliverArrivals hf ▸ hd), if_neg hf]

end Sys2Proof.Machine
end

