-- ==== Sys2Proof/Tests/Slice0.lean ====
section
/-! SUPPORT. The model's own tests: the well-formedness check, the decoding of every opcode number from words written out
from the formats of 30_encoding.md, one or two steps per instruction with the values of 95_test_vectors.md, and for every
obligation with hypotheses a witness that meets them. -/

open Sys2Proof Sys2Proof.Machine Sys2Proof.Claims

namespace Sys2Proof.Tests

/-! ## Well-formedness: the b field holds no inline literal (40_operands.md R122) -/
/-- Every BASIC instruction with an inline literal as b is ill-formed. -/
theorem test_wf_refuses_inline_destination : ([
    .set (.inline 0#5) (.reg .a), .add (.inline 1#5) (.reg .a), .sub (.inline 2#5) (.reg .a),
    .mul (.inline 3#5) (.reg .a), .mli (.inline 4#5) (.reg .a), .div (.inline 5#5) (.reg .a),
    .dvi (.inline 6#5) (.reg .a), .mod (.inline 7#5) (.reg .a), .mdi (.inline 8#5) (.reg .a),
    .and (.inline 9#5) (.reg .a), .bor (.inline 10#5) (.reg .a), .xor (.inline 11#5) (.reg .a),
    .shr (.inline 12#5) (.reg .a), .asr (.inline 13#5) (.reg .a), .shl (.inline 14#5) (.reg .a),
    .ifb (.inline 15#5) (.reg .a), .ifc (.inline 16#5) (.reg .a), .ife (.inline 17#5) (.reg .a),
    .ifn (.inline 18#5) (.reg .a), .ifg (.inline 19#5) (.reg .a), .ifa (.inline 20#5) (.reg .a),
    .ifl (.inline 21#5) (.reg .a), .ifu (.inline 22#5) (.reg .a), .reservedBasic18 (.inline 23#5) (.reg .a),
    .reservedBasic19 (.inline 24#5) (.reg .a), .adx (.inline 25#5) (.reg .a), .sbx (.inline 26#5) (.reg .a),
    .hww (.inline 27#5) (.reg .a), .hwr (.inline 28#5) (.reg .a), .sti (.inline 29#5) (.reg .a),
    .std (.inline 30#5) (.reg .a)] : List Instr).all (fun i => i.wf == false) = true := by
  decide

theorem test_wf_accepts_inline_source : (Instr.set (.reg .a) (.inline 31#5)).wf = true := by decide

/-! ## Decoding: every opcode number, the word written out as a b o, a o 0 or v o 0 (R92 to R94) -/

/-- BASIC words `aaaaaa_bbbbb_ooooo`, opcodes 0x01 to 0x0f. -/
theorem test_decode_basic_low : [
    0b001011_00000_00001#16, 0b110000_00001_00010#16, 0b010101_00010_00011#16,
    0b111010_00011_00100#16, 0b011111_00100_00101#16, 0b000100_00101_00110#16,
    0b101001_00110_00111#16, 0b001110_00111_01000#16, 0b110011_01000_01001#16,
    0b011000_01001_01010#16, 0b111101_01010_01011#16, 0b100010_01011_01100#16,
    0b000111_01100_01101#16, 0b101100_01101_01110#16, 0b010001_01110_01111#16].map decode = [
    .set (.reg .a) (.ind .x), .add (.reg .b) (.inline 16#5), .sub (.reg .c) (.indNext .z),
    .mul (.reg .x) (.inline 26#5), .mli (.reg .y) .litNext, .div (.reg .z) (.reg .y),
    .dvi (.reg .i) (.inline 9#5), .mod (.reg .j) (.ind .i), .mdi (.ind .a) (.inline 19#5),
    .and (.ind .b) .stack, .bor (.ind .c) (.inline 29#5), .xor (.ind .x) (.inline 2#5),
    .shr (.ind .y) (.reg .j), .asr (.ind .z) (.inline 12#5), .shl (.ind .i) (.indNext .b)] := by
  decide

/-- BASIC words, opcodes 0x10 to 0x1f. -/
theorem test_decode_basic_high : [
    0b110110_01111_10000#16, 0b011011_10000_10001#16, 0b000000_10001_10010#16,
    0b100101_10010_10011#16, 0b001010_10011_10100#16, 0b101111_10100_10101#16,
    0b010100_10101_10110#16, 0b111001_10110_10111#16, 0b011110_10111_11000#16,
    0b000011_11000_11001#16, 0b101000_11001_11010#16, 0b001101_11010_11011#16,
    0b110010_11011_11100#16, 0b010111_11100_11101#16, 0b111100_11101_11110#16,
    0b100001_11110_11111#16].map decode = [
    .ifb (.ind .j) (.inline 22#5), .ifc (.indNext .a) .sp, .ife (.indNext .b) (.reg .a),
    .ifn (.indNext .c) (.inline 5#5), .ifg (.indNext .x) (.ind .c), .ifa (.indNext .y) (.inline 15#5),
    .ifl (.indNext .z) (.indNext .y), .ifu (.indNext .i) (.inline 25#5), .reservedBasic18 (.indNext .j) .absNext,
    .reservedBasic19 .stack (.reg .x), .adx .peek (.inline 8#5), .sbx .pick (.ind .z),
    .hww .sp (.inline 18#5), .hwr .pc (.indNext .j), .sti .ex (.inline 28#5),
    .std .absNext (.inline 1#5)] := by
  decide

/-- SPECIAL words `aaaaaa_ooooo_00000`, opcodes 0x01 to 0x0f. -/
theorem test_decode_special_low : [
    0b001010_00001_00000#16, 0b100111_00010_00000#16, 0b000100_00011_00000#16,
    0b100001_00100_00000#16, 0b111110_00101_00000#16, 0b011011_00110_00000#16,
    0b111000_00111_00000#16, 0b010101_01000_00000#16, 0b110010_01001_00000#16,
    0b001111_01010_00000#16, 0b101100_01011_00000#16, 0b001001_01100_00000#16,
    0b100110_01101_00000#16, 0b000011_01110_00000#16, 0b100000_01111_00000#16].map decode = [
    .jsr (.ind .c), .bsr (.inline 7#5), .reservedSpecial03 (.reg .y),
    .reservedSpecial04 (.inline 1#5), .neg (.inline 30#5), .reservedSpecial06 .sp,
    .hcf (.inline 24#5), .int (.indNext .z), .iag (.inline 18#5),
    .ias (.ind .j), .rfi (.inline 12#5), .iaq (.ind .b),
    .reservedSpecial0d (.inline 6#5), .mmw (.reg .x), .mmr (.inline 0#5)] := by
  decide

/-- SPECIAL words, opcodes 0x10 to 0x1f. -/
theorem test_decode_special_high : [
    0b111101_10000_00000#16, 0b011010_10001_00000#16, 0b110111_10010_00000#16,
    0b010100_10011_00000#16, 0b110001_10100_00000#16, 0b001110_10101_00000#16,
    0b101011_10110_00000#16, 0b001000_10111_00000#16, 0b100101_11000_00000#16,
    0b000010_11001_00000#16, 0b011111_11010_00000#16, 0b111100_11011_00000#16,
    0b011001_11100_00000#16, 0b110110_11101_00000#16, 0b010011_11110_00000#16,
    0b110000_11111_00000#16].map decode = [
    .reservedSpecial10 (.inline 29#5), .reservedSpecial11 .pick, .reservedSpecial12 (.inline 23#5),
    .reservedSpecial13 (.indNext .y), .sxb (.inline 17#5), .swp (.ind .i),
    .reservedSpecial16 (.inline 11#5), .reservedSpecial17 (.ind .a), .reservedSpecial18 (.inline 5#5),
    .reservedSpecial19 (.reg .c), .reservedSpecial1a .litNext, .reservedSpecial1b (.inline 28#5),
    .reservedSpecial1c .peek, .reservedSpecial1d (.inline 22#5), .reservedSpecial1e (.indNext .x),
    .reservedSpecial1f (.inline 16#5)] := by
  decide

/-- IMPLIED words `v_ooooo_0000000000`, opcodes 0x00 to 0x0f. -/
theorem test_decode_implied_low : [
    0b0_00000_0000000000#16, 0b1_00001_0000000000#16, 0b0_00010_0000000000#16,
    0b1_00011_0000000000#16, 0b0_00100_0000000000#16, 0b1_00101_0000000000#16,
    0b0_00110_0000000000#16, 0b1_00111_0000000000#16, 0b0_01000_0000000000#16,
    0b1_01001_0000000000#16, 0b0_01010_0000000000#16, 0b1_01011_0000000000#16,
    0b0_01100_0000000000#16, 0b1_01101_0000000000#16, 0b0_01110_0000000000#16,
    0b1_01111_0000000000#16].map decode = [
    .hlt false, .slp true, .reservedImplied02 false,
    .reservedImplied03 true, .byt false, .reservedImplied05 true,
    .reservedImplied06 false, .reservedImplied07 true, .reservedImplied08 false,
    .reservedImplied09 true, .reservedImplied0a false, .reservedImplied0b true,
    .reservedImplied0c false, .reservedImplied0d true, .reservedImplied0e false,
    .reservedImplied0f true] := by
  decide

/-- IMPLIED words, opcodes 0x10 to 0x1f. -/
theorem test_decode_implied_high : [
    0b0_10000_0000000000#16, 0b1_10001_0000000000#16, 0b0_10010_0000000000#16,
    0b1_10011_0000000000#16, 0b0_10100_0000000000#16, 0b1_10101_0000000000#16,
    0b0_10110_0000000000#16, 0b1_10111_0000000000#16, 0b0_11000_0000000000#16,
    0b1_11001_0000000000#16, 0b0_11010_0000000000#16, 0b1_11011_0000000000#16,
    0b0_11100_0000000000#16, 0b1_11101_0000000000#16, 0b0_11110_0000000000#16,
    0b1_11111_0000000000#16].map decode = [
    .skp false, .reservedImplied11 true, .reservedImplied12 false,
    .reservedImplied13 true, .reservedImplied14 false, .reservedImplied15 true,
    .reservedImplied16 false, .reservedImplied17 true, .reservedImplied18 false,
    .reservedImplied19 true, .reservedImplied1a false, .reservedImplied1b true,
    .reservedImplied1c false, .reservedImplied1d true, .reservedImplied1e false,
    .reservedImplied1f true] := by
  decide

/-- The lengths printed in 95_test_vectors.md section 2.1. -/
theorem test_lengths : [0x7c01#16, 0x7fc1#16, 0x4be1#16, 0x6b41#16, 0xffff#16, 0x0018#16, 0x7c19#16, 0x7c20#16, 0x8560#16,
    0x7e00#16, 0x0000#16, 0xfc00#16].map wordLength = [2, 3, 3, 3, 2, 1, 2, 2, 1, 2, 1, 1] := by
  decide

/-- Too few octets for a first word are refused by name; a second octet completes one (20_memory.md R52). -/
theorem test_decode_octets : decodeOctets [0x01#8] = .error .truncated ∧
    decodeOctets [0x01#8, 0x7c#8, 0x34#8] = .ok (.set (.reg .a) .litNext, [0x34#8]) := by
  exact ⟨rfl, rfl⟩

/-- `SET [0x2000], [0x1000]` = words `7bc1 1000 2000`, a's next word first (R99). -/
theorem test_encode_octets : encodeOctets (.set .absNext .absNext) [0x1000#16, 0x2000#16, 0x9999#16] =
    [0xc1#8, 0x7b#8, 0x00#8, 0x10#8, 0x00#8, 0x20#8] := by
  decide

theorem test_table_word : decodeTableWord 16 0x7c01 = some (.set (.reg .a) .litNext) := by decide

/-! ## One step each (95_test_vectors.md parts 1 and 2) -/

/-- Words stored from a virtual address up. -/
def placeWords : Word → List Word → State → State
  | _, [], s => s
  | va, w :: rest, s => placeWords (va + 2#16) rest (writeWord va w s)

/-- The reset machine with the words of one instruction at address 0. -/
def withCode (ws : List Word) : State := placeWords 0#16 ws State.reset

/-- The reset machine with one instruction at 0 and two operand registers A and B. -/
def withAB (w a b : Word) : State := ((withCode [w]).setReg .a a).setReg .b b

/-- The step answers a next state of which `p` holds. -/
def stepGives (s : State) (p : State → Bool) : Bool :=
  match step s with
  | .next t => p t
  | _ => false

/-- The word at a virtual address of RAM. -/
def wordAt (t : State) (va : Word) : Word := (readWord va t).1

theorem test_add_carries : stepGives ((withAB 0x0402#16 0xffff#16 0x0002#16).setEx 0x0000#16)
    (fun t => t.reg .a == 0x0001#16 && t.ex == 0x0001#16 && t.pc == 2#16) = true := by decide

theorem test_sub_borrows : stepGives ((withAB 0x0403#16 0x0003#16 0x0005#16).setEx 0x0000#16)
    (fun t => t.reg .a == 0xfffe#16 && t.ex == 0xffff#16 && t.pc == 2#16) = true := by decide

theorem test_adx_wraps : stepGives ((withAB 0x041a#16 0xffff#16 0xffff#16).setEx 0xffff#16)
    (fun t => t.reg .a == 0xfffd#16 && t.ex == 0x0001#16 && t.pc == 2#16) = true := by decide

theorem test_sbx_unsigned_ex : stepGives ((withAB 0x041b#16 0x0005#16 0x0003#16).setEx 0xffff#16)
    (fun t => t.reg .a == 0x0001#16 && t.ex == 0x0001#16 && t.pc == 2#16) = true := by decide

theorem test_sbx_borrows : stepGives ((withAB 0x041b#16 0x0003#16 0x0005#16).setEx 0x0000#16)
    (fun t => t.reg .a == 0xfffe#16 && t.ex == 0xffff#16 && t.pc == 2#16) = true := by decide

theorem test_mul_high_word : stepGives ((withAB 0x0404#16 0xffff#16 0xffff#16).setEx 0x0000#16)
    (fun t => t.reg .a == 0x0001#16 && t.ex == 0xfffe#16 && t.pc == 2#16) = true := by decide

theorem test_mli_high_word : stepGives ((withAB 0x0405#16 0x8000#16 0x7fff#16).setEx 0x0000#16)
    (fun t => t.reg .a == 0x8000#16 && t.ex == 0xc000#16 && t.pc == 2#16) = true := by decide

theorem test_div_fraction : stepGives ((withAB 0x0406#16 0x0007#16 0x0002#16).setEx 0x0000#16)
    (fun t => t.reg .a == 0x0003#16 && t.ex == 0x8000#16 && t.pc == 2#16) = true := by decide

theorem test_div_by_zero : stepGives ((withAB 0x0406#16 0x1234#16 0x0000#16).setEx 0x0005#16)
    (fun t => t.reg .a == 0x0000#16 && t.ex == 0x0000#16 && t.pc == 2#16) = true := by decide

theorem test_dvi_rounds_to_zero : stepGives ((withAB 0x0407#16 0xfff9#16 0x0002#16).setEx 0x0000#16)
    (fun t => t.reg .a == 0xfffd#16 && t.ex == 0x8000#16 && t.pc == 2#16) = true := by decide

theorem test_dvi_overflows : stepGives ((withAB 0x0407#16 0x8000#16 0xffff#16).setEx 0x0000#16)
    (fun t => t.reg .a == 0x8000#16 && t.ex == 0x0000#16 && t.pc == 2#16) = true := by decide

theorem test_mod_keeps_ex : stepGives ((withAB 0x0408#16 0x0007#16 0x0003#16).setEx 0x0055#16)
    (fun t => t.reg .a == 0x0001#16 && t.ex == 0x0055#16 && t.pc == 2#16) = true := by decide

theorem test_mdi_dividend_sign : stepGives ((withAB 0x0409#16 0xfff9#16 0x0010#16).setEx 0x0000#16)
    (fun t => t.reg .a == 0xfff9#16 && t.ex == 0x0000#16 && t.pc == 2#16) = true := by decide

theorem test_and_keeps_ex : stepGives ((withAB 0x040a#16 0xf0f0#16 0x3c3c#16).setEx 0x0001#16)
    (fun t => t.reg .a == 0x3030#16 && t.ex == 0x0001#16 && t.pc == 2#16) = true := by decide

theorem test_bor_keeps_ex : stepGives ((withAB 0x040b#16 0xf0f0#16 0x3c3c#16).setEx 0x0001#16)
    (fun t => t.reg .a == 0xfcfc#16 && t.ex == 0x0001#16 && t.pc == 2#16) = true := by decide

theorem test_xor_keeps_ex : stepGives ((withAB 0x040c#16 0xf0f0#16 0x3c3c#16).setEx 0x0001#16)
    (fun t => t.reg .a == 0xcccc#16 && t.ex == 0x0001#16 && t.pc == 2#16) = true := by decide

theorem test_shr_by_four : stepGives ((withAB 0x040d#16 0x8421#16 0x0004#16).setEx 0x0000#16)
    (fun t => t.reg .a == 0x0842#16 && t.ex == 0x1000#16 && t.pc == 2#16) = true := by decide

theorem test_shr_by_twenty : stepGives ((withAB 0x040d#16 0x8421#16 0x0014#16).setEx 0x0000#16)
    (fun t => t.reg .a == 0x0000#16 && t.ex == 0x0842#16 && t.pc == 2#16) = true := by decide

theorem test_asr_by_four : stepGives ((withAB 0x040e#16 0x8421#16 0x0004#16).setEx 0x0000#16)
    (fun t => t.reg .a == 0xf842#16 && t.ex == 0x1000#16 && t.pc == 2#16) = true := by decide

theorem test_asr_by_thirty_two : stepGives ((withAB 0x040e#16 0x8421#16 0x0020#16).setEx 0x0000#16)
    (fun t => t.reg .a == 0xffff#16 && t.ex == 0xffff#16 && t.pc == 2#16) = true := by decide

theorem test_shl_by_four : stepGives ((withAB 0x040f#16 0x8421#16 0x0004#16).setEx 0x0000#16)
    (fun t => t.reg .a == 0x4210#16 && t.ex == 0x0008#16 && t.pc == 2#16) = true := by decide

theorem test_shl_by_sixteen : stepGives ((withAB 0x040f#16 0x8421#16 0x0010#16).setEx 0x0000#16)
    (fun t => t.reg .a == 0x0000#16 && t.ex == 0x8421#16 && t.pc == 2#16) = true := by decide

theorem test_ifb_holds : stepGives (withAB 0x0410#16 0x00f0#16 0x0010#16)
    (fun t => !t.skipping && t.pc == 2#16) = true := by decide

theorem test_ifb_fails : stepGives (withAB 0x0410#16 0x00f0#16 0x0f00#16)
    (fun t => t.skipping && t.pc == 2#16) = true := by decide

theorem test_ifc_holds : stepGives (withAB 0x0411#16 0x00f0#16 0x0f00#16)
    (fun t => !t.skipping && t.pc == 2#16) = true := by decide

theorem test_ifc_fails : stepGives (withAB 0x0411#16 0x00f0#16 0x0010#16)
    (fun t => t.skipping && t.pc == 2#16) = true := by decide

theorem test_ife_holds : stepGives (withAB 0x0412#16 0x0005#16 0x0005#16)
    (fun t => !t.skipping && t.pc == 2#16) = true := by decide

theorem test_ife_fails : stepGives (withAB 0x0412#16 0x0005#16 0x0006#16)
    (fun t => t.skipping && t.pc == 2#16) = true := by decide

theorem test_ifn_holds : stepGives (withAB 0x0413#16 0x0005#16 0x0006#16)
    (fun t => !t.skipping && t.pc == 2#16) = true := by decide

theorem test_ifn_fails : stepGives (withAB 0x0413#16 0x0005#16 0x0005#16)
    (fun t => t.skipping && t.pc == 2#16) = true := by decide

theorem test_ifg_holds : stepGives (withAB 0x0414#16 0xffff#16 0x0001#16)
    (fun t => !t.skipping && t.pc == 2#16) = true := by decide

theorem test_ifg_fails : stepGives (withAB 0x0414#16 0x0001#16 0xffff#16)
    (fun t => t.skipping && t.pc == 2#16) = true := by decide

theorem test_ifa_holds : stepGives (withAB 0x0415#16 0x0001#16 0xffff#16)
    (fun t => !t.skipping && t.pc == 2#16) = true := by decide

theorem test_ifa_fails : stepGives (withAB 0x0415#16 0xffff#16 0x0001#16)
    (fun t => t.skipping && t.pc == 2#16) = true := by decide

theorem test_ifl_holds : stepGives (withAB 0x0416#16 0x0001#16 0xffff#16)
    (fun t => !t.skipping && t.pc == 2#16) = true := by decide

theorem test_ifl_fails : stepGives (withAB 0x0416#16 0x0001#16 0x0001#16)
    (fun t => t.skipping && t.pc == 2#16) = true := by decide

theorem test_ifu_holds : stepGives (withAB 0x0417#16 0x8000#16 0x7fff#16)
    (fun t => !t.skipping && t.pc == 2#16) = true := by decide

theorem test_ifu_fails : stepGives (withAB 0x0417#16 0x0001#16 0xffff#16)
    (fun t => t.skipping && t.pc == 2#16) = true := by decide

theorem test_set_odd_address : stepGives (((withCode [0x0121#16]).setReg .a 0xa1b2#16).setReg .b 0x1001#16)
    (fun t => t.mem.read 0x1001 == 0xb2#8 && t.mem.read 0x1002 == 0xa1#8) = true := by decide

theorem test_set_offset_wraps : stepGives ((((placeWords 0x0100#16 [0x0601#16, 0xffff#16] State.reset).setPc 0x0100#16).setReg .b 0xa1b2#16))
    (fun t => t.mem.read 0xffff == 0xb2#8 && t.mem.read 0 == 0xa1#8 && t.pc == 0x0104#16) = true := by decide

theorem test_sti_write_then_increment : stepGives ((withCode [0x98de#16]).setReg .i 0x2000#16)
    (fun t => t.reg .i == 6#16 && t.reg .j == 1#16) = true := by decide

theorem test_sti_memory : stepGives (placeWords 0x1000#16 [0xabcd#16] (((withCode [0x3dde#16]).setReg .i 0x2000#16).setReg .j 0x1000#16))
    (fun t => wordAt t 0x2000#16 == 0xabcd#16 && t.reg .i == 0x2001#16 && t.reg .j == 0x1001#16) = true := by decide

theorem test_std_literal_destination : stepGives (withCode [0x03ff#16, 5#16])
    (fun t => t.reg .i == 0xffff#16 && t.reg .j == 0xffff#16 && t.pc == 4#16) = true := by decide

theorem test_hww_ignores_the_mask : stepGives (((withCode [0x03fc#16, 0x10#16]).setReg .a 0xbeef#16).setMask .keepHigh)
    (fun t => t.bus == [.ioWrite 0x10#16 0xbeef#16] && t.mask == .none && t.pc == 4#16) = true := by decide

/-- `HWR 0x10, 5`: the read is performed, the value dropped. -/
theorem test_hwr_literal : stepGives (withCode [0x9bfd#16, 0x10#16])
    (fun t => t.bus.length == 1 && t.reg .a == 0#16 && t.pc == 4#16) = true := by decide

/-- `HWR 0x10, A` stores whatever the bus answers. -/
theorem test_hwr_stores : ∃ t, step (withCode [0x03fd#16, 0x10#16]) = .next t ∧
    t.reg .a = Config.ioAnswer [] 0x10#16 ∧ t.bus = [.ioRead 0x10#16 (Config.ioAnswer [] 0x10#16)] := ⟨_, rfl, rfl, rfl⟩


theorem test_jsr_pushes_the_next_address : stepGives ((placeWords 0x0010#16 [0x7c20#16, 0x0100#16] State.reset).setPc 0x0010#16)
    (fun t => t.pc == 0x0100#16 && t.sp == 0xfffe#16 && wordAt t 0xfffe#16 == 0x0014#16) = true := by decide

theorem test_jsr_pc : stepGives ((placeWords 0x0010#16 [0x7020#16] State.reset).setPc 0x0010#16)
    (fun t => t.pc == 0x0012#16 && wordAt t 0xfffe#16 == 0x0012#16) = true := by decide

theorem test_bsr_backwards : stepGives ((placeWords 0x0020#16 [0x7c40#16, 0xfffc#16] State.reset).setPc 0x0020#16)
    (fun t => t.pc == 0x0020#16 && t.sp == 0xfffe#16 && wordAt t 0xfffe#16 == 0x0024#16) = true := by decide

theorem test_neg_pop : stepGives (placeWords 0xfffe#16 [5#16] ((withCode [0x60a0#16]).setSp 0xfffe#16))
    (fun t => wordAt t 0xfffe#16 == 0xfffb#16 && t.sp == 0#16) = true := by decide

theorem test_neg_masked : stepGives (((withCode [0x00a0#16]).setReg .a 1#16).setMask .keepLow)
    (fun t => t.reg .a == 0xff01#16 && t.mask == .none) = true := by decide

theorem test_hcf : ∃ t, step (withCode [0x00e0#16]) = .next t ∧ t.run = .onFire := ⟨_, rfl, rfl⟩

theorem test_int_queues : stepGives ((withCode [0x9900#16]).setIa 0x0400#16)
    (fun t => t.queue == [5#16] && t.pc == 2#16) = true := by decide

theorem test_int_overflows : stepGives ((withCode [0x9900#16]).setQueue (List.replicate 256 0#16) |>.setQueueing true)
    (fun t => t.run == .onFire) = true := by decide +kernel

theorem test_iag_masked : stepGives ((((withCode [0x0520#16]).setIa 0x0456#16).setReg .b 0xaaaa#16).setMask .keepHigh)
    (fun t => t.reg .b == 0xaa56#16) = true := by decide

theorem test_ias_not_masked : stepGives ((((withCode [0x0140#16]).setReg .a 0x1234#16).setIa 0xffff#16).setMask .keepHigh)
    (fun t => t.ia == 0x1234#16 && t.mask == .none) = true := by decide

theorem test_rfi_pop : stepGives (placeWords 0xfffa#16 [0x9999#16, 0x1111#16, 0x0022#16] (((placeWords 0x0400#16 [0x6160#16] State.reset).setPc 0x0400#16).setSp 0xfffa#16 |>.setQueueing true))
    (fun t => t.reg .a == 0x1111#16 && t.pc == 0x0022#16 && t.sp == 0#16 && !t.queueing) = true := by decide

theorem test_iaq_on : stepGives (withCode [0x7d80#16, 0x8000#16])
    (fun t => t.queueing && t.pc == 4#16) = true := by decide

theorem test_iaq_off : stepGives ((withCode [0x8580#16]).setQueueing true)
    (fun t => !t.queueing) = true := by decide

theorem test_mmw_maps : stepGives (withCode [0x7dc0#16, 0x0123#16])
    (fun t => emuPage t.emu 3#4 == 0x012#12 && emuPage t.emu 2#4 == 2#12 && t.pc == 4#16) = true := by decide

theorem test_mmr_reads : stepGives (((withCode [0x01e0#16]).setReg .a 0xabc5#16).setEmu (emuMap Config.emuReset 5#4 0x123#12))
    (fun t => t.reg .a == 0x1235#16) = true := by decide

theorem test_sxb_negative : stepGives ((withCode [0x0280#16]).setReg .a 0x1280#16)
    (fun t => t.reg .a == 0xff80#16) = true := by decide

theorem test_sxb_positive : stepGives ((withCode [0x0280#16]).setReg .a 0xff7f#16)
    (fun t => t.reg .a == 0x007f#16) = true := by decide

theorem test_swp_swaps : stepGives ((withCode [0x02a0#16]).setReg .a 0x1234#16)
    (fun t => t.reg .a == 0x3412#16) = true := by decide

theorem test_swp_masked_duplicates : stepGives (((withCode [0x02a0#16]).setReg .a 0x1234#16).setMask .keepHigh)
    (fun t => t.reg .a == 0x1212#16) = true := by decide

theorem test_hlt_halts : stepGives (withCode [0x8000#16])
    (fun t => t.run == .halted && t.pc == 2#16) = true := by decide

theorem test_hlt_enqueues_zero : stepGives ((withCode [0x0000#16]).setIa 0x0400#16)
    (fun t => t.run == .running && t.queue == [0#16]) = true := by decide

theorem test_slp_sleeps : stepGives ((withCode [0x0400#16]).setIa 0x0400#16)
    (fun t => t.run == .sleeping && t.pc == 2#16) = true := by decide

theorem test_byt_sets : stepGives (withCode [0x9000#16])
    (fun t => t.mask == .keepHigh) = true := by decide

theorem test_byt_clears_pending : stepGives ((withCode [0x9000#16]).setMask .keepHigh)
    (fun t => t.mask == .none) = true := by decide

theorem test_skp_skips : stepGives (withCode [0x4000#16])
    (fun t => t.skipping && t.pc == 2#16) = true := by decide

theorem test_skipped_reserved_two_words : stepGives ((withCode [0x7c18#16, 0x1234#16]).setSkipping true)
    (fun t => t.pc == 4#16 && !t.skipping && t.run == .running) = true := by decide

theorem test_reserved_faults : stepGives (withCode [0x0018#16])
    (fun t => t.run == .faulted (.reservedOpcode 0x0018#16)) = true := by decide

theorem test_add_push_reads_after_moving : stepGives (placeWords 0xfffe#16 [0x00ff#16] (withCode [0x8b02#16]))
    (fun t => t.sp == 0xfffe#16 && wordAt t 0xfffe#16 == 0x0100#16 && t.ex == 0#16) = true := by decide

theorem test_mul_ex_before_b : stepGives ((withCode [0x7fa4#16, 0x0100#16]).setEx 0x1234#16)
    (fun t => t.ex == 0x3400#16) = true := by decide

theorem test_interrupt_entry : stepGives ((((placeWords 0x0400#16 [0x8560#16] State.reset).setPc 0x0022#16).setIa 0x0400#16).setReg .a 0x1111#16 |>.setQueue [5#16])
    (fun t => t.reg .a == 0x1111#16 && t.pc == 0x0022#16 && t.sp == 0#16 && t.queue == [] && !t.queueing) = true := by decide

/-! ## Witnesses: the hypotheses of the obligations can be met

Each theorem meets the hypotheses of the obligation its name ends in, one theorem or conjunct per clause. -/

theorem witness_DecodeInvertsEncode : (Instr.std .litNext (.inline 31#5)).wf = true := rfl

theorem witness_EveryFirstWordIsOneInstruction :
    (Instr.set (.reg .a) .litNext).wf = true ∧ encode (.set (.reg .a) .litNext) = 0x7c01#16 := ⟨rfl, by decide⟩

/-- A running state with a full queue, held back, that steps. -/
theorem witness_StepKeepsTheInvariant :
    ∃ s t : State, s.Inv ∧ s.queue.length = 256 ∧ step s = .next t :=
  ⟨((withCode [0x0121#16]).setQueue (List.replicate 256 0#16)).setQueueing true, _,
    ⟨by decide, by decide +kernel, by decide⟩, by decide +kernel, rfl⟩

/-- A sleeping state with a message that wakes it. -/
theorem witness_StepKeepsTheInvariant_sleeping :
    ∃ s t : State, s.Inv ∧ s.run = .sleeping ∧ step s = .next t :=
  ⟨(((withCode [0x0121#16]).setRun .sleeping).setQueue [1#16]).setIa 2#16, _, ⟨by decide, by decide, by decide⟩, rfl, rfl⟩

theorem witness_WordReadsBackFromRam :
    (RamAt State.reset 0xffff#16 ∧ RamAt State.reset (0xffff#16 + 1#16)) ∧
    (RamAt State.reset 0x0fff#16 ∧ RamAt State.reset (0x0fff#16 + 1#16)) ∧
    (0x001000#24 ≠ translate State.reset.emu 0xffff#16 ∧ 0x001000#24 ≠ translate State.reset.emu (0xffff#16 + 1#16)) := by
  exact ⟨⟨rfl, rfl⟩, ⟨rfl, rfl⟩, by decide, by decide⟩

/-- Two different blocks on one page, at its first and last octet. -/
theorem witness_AliasedBlocksShareCells :
    ∃ s : State, emuPage s.emu 2#4 = emuPage s.emu 7#4 ∧ RamAt s (2#4 ++ 0x000#12) ∧ RamAt s (2#4 ++ 0xfff#12) :=
  ⟨State.reset.setEmu (emuMap Config.emuReset 7#4 2#12), by decide, rfl, rfl⟩

/-- A state whose physical map has a ROM, a device and an empty region, one octet each, and RAM elsewhere. -/
def mixedMap : State :=
  { State.reset with physMap := [⟨0x100, 1, .rom⟩, ⟨0x101, 1, .device⟩, ⟨0x102, 1, .empty⟩] }

theorem witness_MemoryAccessesFollowWhatAnswers :
    kindAt mixedMap.physMap (translate mixedMap.emu 0x100#16) = .rom ∧
    kindAt mixedMap.physMap (translate mixedMap.emu 0x101#16) = .device ∧
    kindAt mixedMap.physMap (translate mixedMap.emu 0x102#16) = .empty ∧
    RamAt mixedMap 0x0ff#16 ∧ RamAt mixedMap 0x103#16 ∧ PlainAt mixedMap 0x0ff#16 ∧ PlainAt mixedMap 0x100#16 := by
  unfold RamAt PlainAt; decide

theorem witness_CanonicalMemoriesThatReadAlikeAreEqual :
    ∃ m n : Memory, m.wf = true ∧ n.wf = true ∧ m ≠ [] ∧ ∀ a, m.read a = n.read a :=
  ⟨[(0xffffff, 1#8)], [(0xffffff, 1#8)], by decide, by decide, by decide, fun _ => rfl⟩

/-- RAM at both octets; and ROM at the first, RAM at the second. -/
theorem witness_FetchReadsTheWordAtPc :
    (PlainAt (State.reset.setPc 0xffff#16) 0xffff#16 ∧ PlainAt (State.reset.setPc 0xffff#16) (0xffff#16 + 1#16)) ∧
    (PlainAt (mixedMap.setPc 0x00ff#16) 0x00ff#16 ∧ PlainAt (mixedMap.setPc 0x00ff#16) (0x00ff#16 + 1#16)) :=
  ⟨⟨.inl rfl, .inl rfl⟩, .inl rfl, .inr rfl⟩

theorem witness_OperandATable : 0x20 ≤ (0x20#6).toNat ∧ 0x20 ≤ (0x3f#6).toNat := by decide

theorem witness_OperandBTable : (0x00#6).toNat < 0x20 ∧ (0x18#6).toNat < 0x20 ∧ (0x1f#6).toNat < 0x20 := by decide

/-- A stack pointer of 0, and an odd one whose word straddles the end of the address space. -/
theorem witness_PushThenPopGivesTheWordBack :
    (RamAt State.reset (0#16 - 2#16) ∧ RamAt State.reset (0#16 - 1#16)) ∧
    (RamAt (State.reset.setSp 1#16) (1#16 - 2#16) ∧ RamAt (State.reset.setSp 1#16) (1#16 - 1#16)) :=
  ⟨⟨rfl, rfl⟩, rfl, rfl⟩

theorem witness_DivDeliversQuotientAndFraction :
    (handleA (.inline 2#5) State.reset).value ≠ 0#16 ∧ (handleA (.inline 0#5) State.reset).value ≠ 0#16 := by decide

theorem witness_MdiRemainderHasTheDividendsSign :
    (handleA (.inline 0#5) State.reset).value ≠ 0#16 ∧
    (handleA (.reg .a) (State.reset.setReg .a 0x8000#16)).value ≠ 0#16 := by decide

/-- A skipping state at a conditional, with a message just arriving, and one at another instruction. -/
theorem witness_SkippingMovesPcByTheLength :
    (∃ s : State, s.arrivals = [[5#16], [6#16]] ∧ (deliverArrivals s).run = .running ∧ (deliverArrivals s).skipping = true ∧
      isConditionalWord (fetch16 (deliverArrivals s)).1 = true) ∧
    (∃ s : State, s.arrivals = [[]] ∧ (deliverArrivals s).run = .running ∧ (deliverArrivals s).skipping = true ∧
      isConditionalWord (fetch16 (deliverArrivals s)).1 = false) :=
  ⟨⟨((withCode [0x0410#16]).setSkipping true).setArrivals [[5#16], [6#16]], rfl, by decide, by decide, by decide⟩,
    ⟨(withCode [0x7c18#16]).setSkipping true, rfl, rfl, rfl, by decide⟩⟩

/-- The last length that takes a message and the first that does not. -/
theorem witness_IntEnqueuesItsMessage :
    (State.reset.setQueue (List.replicate 255 0#16)).queue.length < 256 ∧
    256 ≤ (State.reset.setQueue (List.replicate 256 0#16)).queue.length := by decide +kernel

theorem witness_HltAndSlpComplete :
    State.reset.ia = 0#16 ∧
    ((State.reset.setIa 0xffff#16).setQueue (List.replicate 255 0#16)).ia ≠ 0#16 ∧
    ((State.reset.setIa 0xffff#16).setQueue (List.replicate 255 0#16)).queue.length < 256 ∧
    256 ≤ ((State.reset.setIa 0xffff#16).setQueue (List.replicate 256 0#16)).queue.length := by decide +kernel

/-- The state after SKP is running once nothing, or a message, has arrived. -/
theorem witness_SkpSkipsTheNextInstruction :
    (∃ t, exec (.skp true) (State.reset.setArrivals [[]]) = .next t ∧ (deliverArrivals t).run = .running) ∧
    ∃ t, exec (.skp true) (State.reset.setArrivals [[5#16]]) = .next t ∧ (deliverArrivals t).run = .running :=
  ⟨⟨_, rfl, by decide⟩, _, rfl, by decide⟩

theorem witness_BytSetsOrClearsTheMask :
    ∃ t, State.reset.mask = .none ∧ exec (.byt true) State.reset = .next t := ⟨_, rfl, rfl⟩

theorem witness_ReservedEncodingsRaiseTheModelFault :
    (reservedInstrs (.reg .a) .stack true).length = 48 ∧
    Instr.reservedBasic18 (.reg .a) .stack ∈ reservedInstrs (.reg .a) .stack true ∧
    Instr.reservedImplied1f true ∈ reservedInstrs (.reg .a) .stack true := by decide

/-- A running and a sleeping state at which the handler is entered; SP 2 makes the pushed words straddle address 0. -/
theorem witness_InterruptEntrySavesPcAndA :
    ∀ r ∈ [RunState.running, RunState.sleeping],
      ∃ s : State, s.queue = 5#16 :: [6#16] ∧ s.run = r ∧ s.queueing = false ∧ s.skipping = false ∧ s.mask = .none ∧
        s.ia ≠ 0#16 ∧ s.sp = 2#16 :=
  fun r _ => ⟨(((State.reset.setQueue [5#16, 6#16]).setIa 0x0400#16).setSp 2#16).setRun r, rfl, rfl, rfl, rfl, rfl,
    (by decide : (0x0400#16 : Word) ≠ 0#16), rfl⟩

theorem witness_TriggerWithIaZeroDiscardsTheMessage :
    ∀ r ∈ [RunState.running, RunState.sleeping],
      ∃ s : State, s.queue = 5#16 :: [] ∧ s.run = r ∧ s.queueing = false ∧ s.skipping = false ∧ s.mask = .none ∧
        s.ia = 0#16 :=
  fun r _ => ⟨(State.reset.setQueue [5#16]).setRun r, rfl, rfl, rfl, rfl, rfl, rfl⟩

/-- Each of the four reasons, alone. -/
theorem witness_MessagesAreHeldBack :
    ((State.reset.setQueue [5#16]).setQueueing true).queueing = true ∧
    ((State.reset.setQueue [5#16]).setSkipping true).skipping = true ∧
    ((State.reset.setQueue [5#16]).setMask .keepLow).mask ≠ .none ∧ State.reset.queue = [] := by decide

theorem witness_RfiRestoresWhatEntrySaved :
    (RamAt State.reset (0#16 - 1#16) ∧ RamAt State.reset (0#16 - 2#16) ∧ RamAt State.reset (0#16 - 3#16) ∧
      RamAt State.reset (0#16 - 4#16)) ∧
    (∃ k, Operand.inline 1#5 = .inline k) ∧ (∃ r, Operand.reg .j = .reg r) ∧
    ∃ pa : PhysAddr, ∀ k : Word, 1 ≤ k.toNat → k.toNat ≤ 4 → pa ≠ translate State.reset.emu (State.reset.sp - k) := by
  refine ⟨⟨rfl, rfl, rfl, rfl⟩, ⟨_, rfl⟩, ⟨_, rfl⟩, 0xff0000#24, fun k _ _ h => ?_⟩
  have h := congrArg BitVec.toNat h
  rw [translate_toNat] at h
  have hp : ∀ b : BlockNo, (emuPage State.reset.emu b).toNat < 16 := by decide
  have := hp (blockOf (State.reset.sp - k))
  have : (0xff0000#24).toNat = 0xff0000 := rfl
  omega

theorem witness_EnqueueAppendsOrCatchesFire :
    (State.reset.setQueue (List.replicate 255 0#16)).queue.length < 256 ∧
    256 ≤ (State.reset.setQueue (List.replicate 256 0#16)).queue.length := by decide +kernel

/-- A moment the state does not fix, a moment without messages, and, running or asleep, the last queue with room and the first without. -/
theorem witness_HardwareMessagesAreEnqueuedBeforeTheStep :
    (State.reset.setArrivals []).arrivals = [] ∧ (State.reset.setArrivals [[], [7#16]]).arrivals = [] :: [[7#16]] ∧
    ∀ r ∈ [RunState.running, RunState.sleeping], ∀ n ∈ [255, 256],
      ∃ s : State, s.arrivals = (5#16 :: [6#16]) :: [[7#16]] ∧ s.run = r ∧ s.queue.length = n :=
  ⟨rfl, rfl, fun r _ n _ => ⟨((State.reset.setArrivals [[5#16, 6#16], [7#16]]).setQueue (List.replicate n 0#16)).setRun r,
    rfl, rfl, List.length_replicate⟩⟩

/-- An instruction completes in each way the statement names. -/
theorem witness_RunStateChangesOnlyByNamedEvents :
    State.reset.run = .running ∧ (∃ t, exec (.slp true) State.reset = .next t ∧ t.run = .sleeping) ∧
    (∃ t, exec (.hlt false) State.reset = .next t ∧ t.run = .halted) ∧
    (∃ t, exec (.hcf (.reg .a)) State.reset = .next t ∧ t.run = .onFire) ∧
    (∃ t, exec (.int (.reg .a)) (State.reset.setQueue (List.replicate 256 0#16)) = .next t ∧ t.run = .onFire) ∧
    (∃ t, exec (.hlt true) ((State.reset.setQueue (List.replicate 256 0#16)).setIa 2#16) = .next t ∧ t.run = .onFire) ∧
    ∃ t, exec (.reservedImplied1f true) State.reset = .next t ∧ t.run = .faulted (.reservedOpcode 0xfc00#16) :=
  ⟨rfl, ⟨_, rfl, rfl⟩, ⟨_, rfl, rfl⟩, ⟨_, rfl, rfl⟩, ⟨_, rfl, by decide +kernel⟩, ⟨_, rfl, by decide +kernel⟩, _, rfl, by decide⟩

/-- Each of the six changes does happen. -/
theorem witness_ControlStateHasOnlyItsWriters :
    (∃ t, exec (.ias (.inline 2#5)) State.reset = .next t ∧ t.ia ≠ State.reset.ia) ∧
    (∃ t, exec (.mmw (.inline 2#5)) State.reset = .next t ∧ t.emu ≠ State.reset.emu) ∧
    (∃ t, exec (.iaq (.inline 2#5)) State.reset = .next t ∧ t.queueing ≠ State.reset.queueing) ∧
    (∃ t, exec (.rfi (.inline 2#5)) (State.reset.setQueueing true) = .next t ∧ t.queueing ≠ true) ∧
    (∃ t, exec (.int (.inline 2#5)) State.reset = .next t ∧ t.queue ≠ State.reset.queue) ∧
    (∃ t, exec (.ife (.reg .a) (.inline 2#5)) State.reset = .next t ∧ t.skipping ≠ State.reset.skipping) ∧
    ∃ t, exec (.skp false) State.reset = .next t ∧ t.skipping ≠ State.reset.skipping :=
  ⟨⟨_, rfl, by decide⟩, ⟨_, rfl, by decide⟩, ⟨_, rfl, by decide⟩, ⟨_, rfl, by decide⟩, ⟨_, rfl, by decide⟩,
    ⟨_, rfl, by decide⟩, _, rfl, by decide⟩

theorem witness_ExHasOnlyItsWriters :
    (∃ t, exec (.add (.reg .a) (.inline 2#5)) (State.reset.setReg .a 0xffff#16) = .next t ∧ t.ex ≠ State.reset.ex) ∧
    ∃ t, exec (.set .ex (.inline 2#5)) State.reset = .next t ∧ t.ex ≠ State.reset.ex :=
  ⟨⟨_, rfl, by decide⟩, _, rfl, by decide⟩

/-- A conditional, and another instruction, under a pending mask. -/
theorem witness_MaskLivesUntilANonConditional :
    (∃ t, exec (.ife (.reg .a) (.reg .b)) (State.reset.setMask .keepLow) = .next t ∧
      IsConditional (.ife (.reg .a) (.reg .b))) ∧
    ∃ t, exec (.set (.reg .a) (.reg .b)) (State.reset.setMask .keepLow) = .next t ∧
      ¬IsConditional (.set (.reg .a) (.reg .b)) ∧ ¬IsReserved (.set (.reg .a) (.reg .b)) ∧
      ∀ v, Instr.set (.reg .a) (.reg .b) ≠ .byt v :=
  ⟨⟨_, rfl, trivial⟩, _, rfl, fun h => h, by unfold IsReserved; decide, fun _ h => nomatch h⟩

/-- Both clauses, with the first word's octets in RAM, a message arriving while queueing holds it back. -/
theorem witness_StepRunsTheDecodedInstruction :
    ∃ (i : Instr) (s d : State), i.wf = true ∧ s.arrivals = [[5#16], [6#16]] ∧ d = deliverArrivals s ∧ d.run = .running ∧
      boundary d = d ∧ d.skipping = false ∧ (fetch16 d).1 = encode i ∧ PlainAt d d.pc ∧ PlainAt d (d.pc + 1#16) ∧
      octetAt d d.pc = lo8 (encode i) ∧ octetAt d (d.pc + 1#16) = hi8 (encode i) :=
  ⟨.add .absNext .litNext, ((withCode [0x7fc2#16]).setQueueing true).setArrivals [[5#16], [6#16]], _, rfl, rfl, rfl,
    by decide, by decide, by decide, by decide, .inl (by decide), .inl (by decide), by decide, by decide⟩

/-- A sleeping state woken into its handler by a message that just arrives, and a running one whose message is discarded. -/
theorem witness_StepTriggersThenRunsOneInstruction :
    (∃ (i : Instr) (s e : State), i.wf = true ∧ s.run = .sleeping ∧ s.arrivals = [[5#16]] ∧ s.queue = [] ∧
      e = boundary (deliverArrivals s) ∧ e.run = .running ∧ e.skipping = false ∧ (fetch16 e).1 = encode i) ∧
    (∃ (i : Instr) (s e : State), i.wf = true ∧ s.run = .running ∧ s.arrivals = [[]] ∧ s.queue = [5#16] ∧ s.ia = 0#16 ∧
      e = boundary (deliverArrivals s) ∧ e.run = .running ∧ e.skipping = false ∧ (fetch16 e).1 = encode i) :=
  ⟨⟨.rfi (.inline 1#5),
      (((placeWords 0x0400#16 [0x8560#16] State.reset).setIa 0x0400#16).setRun .sleeping).setArrivals [[5#16]], _,
      rfl, rfl, rfl, rfl, rfl, by decide, by decide, by decide⟩,
    .rfi (.inline 1#5), (withCode [0x8560#16]).setQueue [5#16], _, rfl, rfl, rfl, rfl, rfl, rfl, by decide, by decide,
    by decide⟩

/-- Asleep with IA = 0 and two messages, asleep with nothing queued, and the three terminal run states. -/
theorem witness_SleepStuttersAndTerminalStatesStop :
    (∃ s : State, s.arrivals = [[7#16]] ∧ (boundary (deliverArrivals s)).run = .sleeping) ∧
    (∃ s : State, s.run = .sleeping ∧ s.arrivals = [] :: [] ∧ s.queue = 5#16 :: [6#16] ∧ s.queueing = false ∧
      s.skipping = false ∧ s.mask = .none ∧ s.ia = 0#16) ∧
    (∃ s : State, s.run = .sleeping ∧ s.arrivals = [] :: [[7#16]] ∧ boundary s = s) ∧ (∃ s : State, s.run = .halted) ∧
    (∃ s : State, s.run = .onFire) ∧ ∃ s : State, s.run = .faulted (.reservedOpcode 0x0018#16) :=
  ⟨⟨(State.reset.setRun .sleeping).setArrivals [[7#16]], rfl, by decide⟩,
    ⟨(State.reset.setRun .sleeping).setQueue [5#16, 6#16], rfl, rfl, rfl, rfl, rfl, rfl, rfl⟩,
    ⟨(State.reset.setArrivals [[], [7#16]]).setRun .sleeping, rfl, rfl, rfl⟩, ⟨State.reset.setRun .halted, rfl⟩, ⟨State.reset.setRun .onFire, rfl⟩,
    State.reset.setRun (.faulted (.reservedOpcode 0x0018#16)), rfl⟩
end Sys2Proof.Tests
end

