-- ==== Sys2Proof/Proofs/Memory.lean ====
section
/-! PROOFS. The obligations of 20_memory.md: what an octet access does through the EMU. -/

open Sys2Proof Sys2Proof.Machine Sys2Proof.Claims

namespace Sys2Proof.Machine

/-! ## An address made of a block and an offset -/

@[simp] theorem blockOf_append (b : BlockNo) (off : BitVec 12) : blockOf (b ++ off) = b := by
  rw [blockOf, BitVec.extractLsb'_append_eq_of_le (Nat.le_refl 12)]
  exact BitVec.extractLsb'_eq_self

/-- R62 in block and offset form: the EMU replaces the block by its page and keeps the offset. -/
theorem translate_append (e : Vector PageNo 16) (b : BlockNo) (off : BitVec 12) :
    translate e (b ++ off) = emuPage e b ++ off := by
  rw [translate, blockOf_append, BitVec.extractLsb'_append_eq_of_add_le (by decide), BitVec.extractLsb'_eq_self]

/-- Blocks mapped to one page translate alike: the block enters the physical address through its page alone (R64). -/
theorem translate_append_congr {e : Vector PageNo 16} {b c : BlockNo} (h : emuPage e b = emuPage e c)
    (off : BitVec 12) : translate e (b ++ off) = translate e (c ++ off) := by
  rw [translate_append, translate_append, h]

/-! ## Octet accesses to RAM -/

/-- RAM takes the octet, and nothing else changes (R55). -/
theorem writeOctet_ram {s : State} {va : Word} (h : RamAt s va) (v : Octet) :
    writeOctet va v s = s.setMem (s.mem.write (translate s.emu va).toNat v) := by
  rw [RamAt] at h
  simp only [writeOctet, h]

/-- An octet written to RAM is read back at every virtual address of the same physical octet. -/
theorem readOctet_writeOctet_ram {s : State} {va vb : Word} (h : RamAt s va)
    (hpa : translate s.emu va = translate s.emu vb) (v : Octet) :
    (readOctet vb (writeOctet va v s)).1 = v := by
  have hram : RamAt (writeOctet va v s) vb := by
    rw [writeOctet_ram h]
    simpa only [RamAt, State.setMem_emu, State.setMem_physMap, hpa] using h
  rw [readOctet_plain (.inl hram), writeOctet_ram h]
  simp only [State.setMem_mem, State.setMem_emu, hpa, Memory.read_write, if_true]

end Sys2Proof.Machine

namespace Sys2Proof.Proofs

/-! ## The obligations -/

/-- Settles O11: the two addresses translate alike, so the read meets the physical octet that the write stored. -/
theorem aliasedBlocksShareCells : Obligations.AliasedBlocksShareCells := by
  intro s b c off v hpage
  have hpa : translate s.emu (b ++ off) = translate s.emu (c ++ off) := translate_append_congr hpage off
  exact ⟨hpa, fun hram => readOctet_writeOctet_ram hram hpa v⟩

end Sys2Proof.Proofs
end

