-- ==== Sys2Proof/Proofs/Encoding.lean ====
section
/-! PROOFS. The obligations of 30_encoding.md: the length of an instruction, read off its first word. -/

open Sys2Proof Sys2Proof.Claims

namespace Sys2Proof

/-! ## The fields of a first word as numbers (30_encoding.md R92, R93) -/

theorem toNat_basicField (w : Word) : (basicField w).toNat = w.toNat % 32 := by
  simp [basicField]

theorem toNat_midField (w : Word) : (midField w).toNat = w.toNat / 32 % 32 := by
  simp [midField, Nat.shiftRight_eq_div_pow]

theorem toNat_aField (w : Word) : (aField w).toNat = w.toNat / 1024 := by
  have hlt : w.toNat / 1024 < 64 := by omega
  simp [aField, Nat.shiftRight_eq_div_pow, Nat.mod_eq_of_lt hlt]

/-- The word is BASIC when bits 4:0 are not all 0 (R91). -/
theorem basicField_ne_zero_iff (w : Word) : basicField w ≠ 0 ↔ w.toNat % 32 ≠ 0 := by
  rw [← toNat_basicField, ne_eq, ← BitVec.toNat_inj]; rfl

/-- A word that is not BASIC is SPECIAL when bits 9:5 are not all 0 (R91). -/
theorem midField_ne_zero_iff (w : Word) : midField w ≠ 0 ↔ w.toNat / 32 % 32 ≠ 0 := by
  rw [← toNat_midField, ne_eq, ← BitVec.toNat_inj]; rfl

/-! ## `nw` of a code (R95) -/

theorem codeNextWords_eq_nw (c : BitVec 6) : codeNextWords c = nw c.toNat := by
  simp only [codeNextWords, nw, ← BitVec.toNat_inj]; rfl

/-- The operand a code stands for takes the next words that the code says. -/
theorem nextWords_operandOfCode (c : BitVec 6) : (operandOfCode c).nextWords = codeNextWords c := by
  rw [← codeNextWords_code, code_operandOfCode]

/-! ## The length of a decoded instruction depends on its format and operands, not on its opcode (R95) -/

theorem length_decodeBasic (o : BitVec 5) (b a : Operand) :
    (decodeBasic o b a).length = 1 + a.nextWords + b.nextWords := by
  unfold decodeBasic; split <;> rfl

theorem length_decodeSpecial (o : BitVec 5) (a : Operand) :
    (decodeSpecial o a).length = 1 + a.nextWords := by
  unfold decodeSpecial; split <;> rfl

theorem length_decodeImplied (o : BitVec 5) (v : Bool) : (decodeImplied o v).length = 1 := by
  unfold decodeImplied; split <;> rfl

/-! ## The two lengths -/

/-- The length the skipper computes is the decoded instruction's, format by format. -/
theorem length_decode (w : Word) : (decode w).length = wordLength w := by
  unfold decode wordLength
  split
  · rw [length_decodeBasic, nextWords_operandOfCode, nextWords_operandOfCode]
  · split
    · rw [length_decodeSpecial, nextWords_operandOfCode]
    · exact length_decodeImplied _ _

/-- The length in the numbers of the word's fields. -/
theorem wordLength_eq (w : Word) :
    wordLength w =
      if w.toNat % 32 ≠ 0 then 1 + nw (w.toNat / 1024) + nw (w.toNat / 32 % 32)
      else if w.toNat / 32 % 32 ≠ 0 then 1 + nw (w.toNat / 1024)
      else 1 := by
  have ha : codeNextWords (aField w) = nw (w.toNat / 1024) := by
    rw [codeNextWords_eq_nw, toNat_aField]
  have hb : codeNextWords ((midField w).setWidth 6) = nw (w.toNat / 32 % 32) := by
    rw [codeNextWords_eq_nw, BitVec.toNat_setWidth_of_le (by decide), toNat_midField]
  simp only [wordLength, basicField_ne_zero_iff, midField_ne_zero_iff, ha, hb]

end Sys2Proof

namespace Sys2Proof.Proofs

/-! ## The obligations -/

/-- Settles O4: no opcode enters either length, only the format and the operand codes, so reserved encodings need no case
of their own. -/
theorem lengthFollowsFromFirstWord : Obligations.LengthFollowsFromFirstWord :=
  fun w => ⟨length_decode w, wordLength_eq w⟩

end Sys2Proof.Proofs
end

