-- ==== Sys2Proof/Proofs/BasicAlu.lean ====
section
/-! PROOFS. The obligations of 41_basic_alu.md: moves, addition, multiplication, division and bitwise logic. -/

open Sys2Proof Sys2Proof.Machine Sys2Proof.Claims

namespace Sys2Proof

/-! ## The first word of a BASIC instruction as a number (30_encoding.md R92) -/

theorem toNat_basicWord (o : BitVec 5) (b a : Operand) :
    (basicWord o b a).toNat = a.code.toNat * 1024 + b.code.toNat % 32 * 32 + o.toNat := by
  have hb : (b.code.setWidth 5).toNat < 2 ^ 5 := BitVec.isLt _
  have hlo : o.toNat < 2 ^ 5 := o.isLt
  rw [basicWord, BitVec.toNat_append, BitVec.toNat_append, ← Nat.shiftLeft_add_eq_or_of_lt hb,
    ← Nat.shiftLeft_add_eq_or_of_lt hlo, BitVec.toNat_setWidth]
  simp only [Nat.shiftLeft_eq]
  omega

/-- A table row is settled by the word's opcode field and the cost. -/
theorem basicRow_of_encode {i : Instr} {o : BitVec 5} {c : Nat} {b a : Operand}
    (hi : encode i = basicWord o b a) (hc : opcodeCycles i = some c) : BasicRow i o.toNat c b a := by
  refine ⟨?_, hc⟩
  rw [hi, ← toNat_basicWord, BitVec.ofNat_toNat, BitVec.setWidth_eq]

end Sys2Proof

namespace Sys2Proof.Machine

/-! ## The meanings are the frames of R150 over their functions -/

section
variable (b a : Operand) (s : State)
theorem exec_sti : exec (.sti b a) s = performMove (stepPointers 1#16) b a s := rfl
theorem exec_std : exec (.std b a) s = performMove (stepPointers 0xffff#16) b a s := rfl
theorem exec_add : exec (.add b a) s = performAlu aluAdd b a s := rfl
theorem exec_sub : exec (.sub b a) s = performAlu aluSub b a s := rfl
theorem exec_mul : exec (.mul b a) s = performAlu aluMul b a s := rfl
theorem exec_mli : exec (.mli b a) s = performAlu aluMli b a s := rfl
theorem exec_div : exec (.div b a) s = performAlu aluDiv b a s := rfl
theorem exec_mod : exec (.mod b a) s = performAlu aluMod b a s := rfl
theorem exec_and : exec (.and b a) s = performAlu aluAnd b a s := rfl
theorem exec_bor : exec (.bor b a) s = performAlu aluBor b a s := rfl
theorem exec_xor : exec (.xor b a) s = performAlu aluXor b a s := rfl
end

/-- An instruction of the frame R150 completes with what its function computes, whatever the operands are. -/
theorem completesB_of_performAlu {i : Instr} {f : Word → Word → Word → AluOut} {b a : Operand} {s : State}
    {r ex : Word} (hi : exec i s = performAlu f b a s)
    (hr : (f (handleB b (handleA a s).state).value (handleA a s).value s.ex).r = r)
    (hex : (f (handleB b (handleA a s).state).value (handleA a s).value s.ex).ex.getD s.ex = ex) :
    CompletesB i b a s r ex := by
  rw [CompletesB, hi, ← hr, ← hex]
  exact performAlu_spec f b a s

/-- The write of a move is the same for every further effect: one middle state serves STI and STD alike. -/
theorem performMove_wrote (b a : Operand) (s : State) :
    ∃ u, Wrote s (resolveB b (handleA a s).state).2 u (resolveB b (handleA a s).state).1 (handleA a s).value s.ex
        s.mask ∧ ∀ after, performMove after b a s = .next ((after u).setMask .none) :=
  ⟨_, wrote_writeLoc_same_ex ((handleA_moved a s).trans (resolveB_moved b (handleA a s).state)) _ _ _, fun _ => rfl⟩

/-! ## Carry, borrow and the high word in the spec's terms -/

theorem aluAdd_ex (vb va ex : Word) :
    (aluAdd vb va ex).ex = some (if vb.toNat + va.toNat ≤ 0xffff then 0#16 else 0x0001#16) := by
  by_cases h : vb.toNat + va.toNat ≤ 0xffff
  · rw [if_pos h, aluAdd, if_neg (Nat.not_lt.2 h)]
  · rw [if_neg h, aluAdd, if_pos (Nat.not_le.1 h)]

theorem aluSub_ex (vb va ex : Word) :
    (aluSub vb va ex).ex = some (if va.toNat ≤ vb.toNat then 0#16 else 0xffff#16) := by
  by_cases h : va.toNat ≤ vb.toNat
  · rw [if_pos h, aluSub, if_neg (by omega)]
  · rw [if_neg h, aluSub, if_pos (by omega)]

theorem aluMul_ex (vb va ex : Word) :
    (aluMul vb va ex).ex = some (BitVec.ofNat 16 (vb.toNat * va.toNat / 65536)) := by
  rw [aluMul, Nat.shiftRight_eq_div_pow]

/-! The words of a 32 bit integer are those of the integer itself, whatever lies above bit 31. -/

theorem lowWord_ofInt (n : Int) : (BitVec.ofInt 32 n).extractLsb' 0 16 = u16 n := by
  apply BitVec.eq_of_toNat_eq
  simp only [u16, BitVec.extractLsb'_toNat, BitVec.toNat_ofInt, Nat.shiftRight_zero]
  omega

theorem highWord_ofInt (n : Int) : (BitVec.ofInt 32 n).extractLsb' 16 16 = u16 (n >>> (16 : Nat)) := by
  apply BitVec.eq_of_toNat_eq
  simp only [u16, BitVec.extractLsb'_toNat, BitVec.toNat_ofInt, Nat.shiftRight_eq_div_pow, Int.shiftRight_eq_div_pow]
  omega

/-- The signed 32 bit product is the integer product cut to 32 bits (R155). -/
theorem signExtend_mul_signExtend (vb va : Word) :
    vb.signExtend 32 * va.signExtend 32 = BitVec.ofInt 32 (s16 vb * s16 va) := by
  rw [BitVec.ofInt_mul]; rfl

theorem aluMli_r (vb va ex : Word) :
    (aluMli vb va ex).r = (vb.signExtend 32 * va.signExtend 32).extractLsb' 0 16 := by
  rw [signExtend_mul_signExtend, lowWord_ofInt]; rfl

theorem aluMli_ex (vb va ex : Word) :
    (aluMli vb va ex).ex = some ((vb.signExtend 32 * va.signExtend 32).extractLsb' 16 16) := by
  rw [signExtend_mul_signExtend, highWord_ofInt]; rfl

/-! ## Division -/

/-- R156: the zero divisor is the only case apart. -/
theorem aluDiv_eq (vb va ex : Word) :
    aluDiv vb va ex = ⟨if va = 0#16 then 0#16 else BitVec.ofNat 16 (vb.toNat / va.toNat),
      some (if va = 0#16 then 0#16 else BitVec.ofNat 16 (vb.toNat * 65536 / va.toNat))⟩ := by
  by_cases h : va = 0#16
  · simp only [aluDiv, if_pos h]
  · simp only [aluDiv, if_neg h]

/-- The whole quotient, shifted up by 16 bits, leaves the low word to the fraction of the remainder (R156). -/
theorem ofNat_div_eq_fraction (n : Nat) {d : Nat} (hd : 0 < d) :
    BitVec.ofNat 16 (n * 65536 / d) = BitVec.ofNat 16 (n % d * 65536 / d) := by
  have hsplit : n * 65536 / d = n % d * 65536 / d + n / d * 65536 := by
    calc n * 65536 / d = (n % d + d * (n / d)) * 65536 / d := by rw [Nat.mod_add_div]
      _ = (n % d * 65536 + d * (n / d * 65536)) / d := by rw [Nat.add_mul, Nat.mul_assoc]
      _ = n % d * 65536 / d + n / d * 65536 := Nat.add_mul_div_left _ _ hd
  apply BitVec.eq_of_toNat_eq
  rw [hsplit, BitVec.toNat_ofNat, BitVec.toNat_ofNat, Nat.add_mul_mod_self_right]

end Sys2Proof.Machine

namespace Sys2Proof.Proofs

/-! ## The obligations -/

/-- Settles O19: SET is the move without a further effect, and b is resolved, never read. -/
theorem setWritesTheSource : Obligations.SetWritesTheSource := by
  intro b a s
  refine ⟨basicRow_of_encode (o := 0x01#5) rfl rfl, ?_⟩
  obtain ⟨u, hu, hw⟩ := performMove_spec (fun t => t) b a s
  exact ⟨u.setMask .none, hu, rfl, hw.setMask .none⟩

/-- Settles O20: both move the same middle state's I and J, and adding 0xffff is taking 1 away. -/
theorem stiAndStdWriteThenMovePointers : Obligations.StiAndStdWriteThenMovePointers := by
  intro b a s
  refine ⟨basicRow_of_encode (o := 0x1e#5) rfl rfl, basicRow_of_encode (o := 0x1f#5) rfl rfl, ?_⟩
  obtain ⟨u, hw, hu⟩ := performMove_wrote b a s
  have hdown : ∀ v : Word, v + 0xffff#16 = v - 1#16 := fun v => by bv_omega
  refine ⟨u, hw, ?_, ?_⟩
  · rw [exec_sti, hu, stepPointers_eq]
  · rw [exec_std, hu, stepPointers_eq, hdown, hdown]

/-- Settles O21: the carry and the borrow are the two sides of the comparison the statement makes. -/
theorem addAndSubWriteResultAndCarry : Obligations.AddAndSubWriteResultAndCarry := by
  intro b a s
  refine ⟨⟨basicRow_of_encode (o := 0x02#5) rfl rfl, ?_⟩, basicRow_of_encode (o := 0x03#5) rfl rfl, ?_⟩
  · exact completesB_of_performAlu (exec_add b a s) rfl (by rw [aluAdd_ex]; rfl)
  · exact completesB_of_performAlu (exec_sub b a s) rfl (by rw [aluSub_ex]; rfl)

/-- Settles O23: for MLI the 32 bit product and the integer product agree on both of their low words. -/
theorem multiplicationsDeliverBothWords : Obligations.MultiplicationsDeliverBothWords := by
  intro b a s
  refine ⟨⟨basicRow_of_encode (o := 0x04#5) rfl rfl, ?_⟩, basicRow_of_encode (o := 0x05#5) rfl rfl, ?_⟩
  · exact completesB_of_performAlu (exec_mul b a s) rfl (by rw [aluMul_ex]; rfl)
  · exact completesB_of_performAlu (exec_mli b a s) (aluMli_r _ _ _) (by rw [aluMli_ex]; rfl)

/-- Settles O24: the zero divisor apart, EX is the fraction because the whole quotient is shifted out of its word. -/
theorem divDeliversQuotientAndFraction : Obligations.DivDeliversQuotientAndFraction := by
  intro b a s
  refine ⟨basicRow_of_encode (o := 0x06#5) rfl rfl, ?_, fun hva => ?_⟩
  · exact completesB_of_performAlu (exec_div b a s) (by rw [aluDiv_eq]) (by rw [aluDiv_eq]; rfl)
  · exact ofNat_div_eq_fraction _ (BitVec.toNat_pos_of_ne_zero hva)

/-- Settles O26: MOD computes the remainder and offers no extra value, so EX keeps its own. -/
theorem modDeliversTheRemainder : Obligations.ModDeliversTheRemainder := fun b a s =>
  ⟨basicRow_of_encode (o := 0x08#5) rfl rfl, completesB_of_performAlu (exec_mod b a s) rfl rfl⟩

/-- Settles O28: each of the three offers no extra value, so EX keeps its own. -/
theorem logicWritesTheBitwiseResult : Obligations.LogicWritesTheBitwiseResult := fun b a s =>
  ⟨⟨basicRow_of_encode (o := 0x0a#5) rfl rfl, completesB_of_performAlu (exec_and b a s) rfl rfl⟩,
    ⟨basicRow_of_encode (o := 0x0b#5) rfl rfl, completesB_of_performAlu (exec_bor b a s) rfl rfl⟩,
    basicRow_of_encode (o := 0x0c#5) rfl rfl, completesB_of_performAlu (exec_xor b a s) rfl rfl⟩

end Sys2Proof.Proofs
end

