-- ==== Sys2Proof/Proofs/Conditionals.lean ====
section
/-! PROOFS. The obligations of 42_conditionals.md: which words are conditional, and what the eight tests do. -/

open Sys2Proof Sys2Proof.Machine Sys2Proof.Claims

namespace Sys2Proof

/-! ## The conditional words (42_conditionals.md R201) -/

/-- Of the BASIC opcodes exactly 0x10 to 0x17 decode to a conditional, whatever the operands are. -/
theorem isConditional_decodeBasic (o : BitVec 5) (b a : Operand) :
    IsConditional (decodeBasic o b a) ↔ 0x10 ≤ o.toNat ∧ o.toNat ≤ 0x17 := by
  unfold decodeBasic
  split <;> simp only [IsConditional, true_iff, false_iff, imp_false] at * <;> omega

theorem not_isConditional_decodeSpecial (o : BitVec 5) (a : Operand) : ¬IsConditional (decodeSpecial o a) := by
  unfold decodeSpecial; split <;> exact id

theorem not_isConditional_decodeImplied (o : BitVec 5) (v : Bool) : ¬IsConditional (decodeImplied o v) := by
  unfold decodeImplied; split <;> exact id

/-- A word outside the BASIC format has opcode field 0, which is below the range, and no conditional to decode to. -/
theorem isConditional_decode (w : Word) :
    IsConditional (decode w) ↔ 0x10 ≤ (basicField w).toNat ∧ (basicField w).toNat ≤ 0x17 := by
  unfold decode
  split
  · exact isConditional_decodeBasic _ _ _
  next hbasic =>
    have hout : ¬(0x10 ≤ (basicField w).toNat ∧ (basicField w).toNat ≤ 0x17) := by
      rw [not_not.1 hbasic]; decide
    split
    · exact iff_of_false (not_isConditional_decodeSpecial _ _) hout
    · exact iff_of_false (not_isConditional_decodeImplied _ _) hout

/-- The skipper's test asks for the same opcodes as the decoder. -/
theorem isConditionalWord_iff (w : Word) : isConditionalWord w = true ↔ IsConditional (decode w) :=
  decide_eq_true_iff.trans (isConditional_decode w).symm

end Sys2Proof

namespace Sys2Proof.Machine

/-! ## The tests as propositions (R204 to R211) -/

section
variable (vb va : Word)
theorem testIfb_iff : testIfb vb va = true ↔ vb &&& va ≠ 0#16 := bne_iff_ne
theorem testIfc_iff : testIfc vb va = true ↔ vb &&& va = 0#16 := beq_iff_eq
theorem testIfe_iff : testIfe vb va = true ↔ vb = va := beq_iff_eq
theorem testIfn_iff : testIfn vb va = true ↔ vb ≠ va := bne_iff_ne
theorem testIfg_iff : testIfg vb va = true ↔ vb.toNat > va.toNat := decide_eq_true_iff
theorem testIfa_iff : testIfa vb va = true ↔ vb.toInt > va.toInt := decide_eq_true_iff
theorem testIfl_iff : testIfl vb va = true ↔ vb.toNat < va.toNat := decide_eq_true_iff
theorem testIfu_iff : testIfu vb va = true ↔ vb.toInt < va.toInt := decide_eq_true_iff
end

/-! ## The meanings are the frame of R200 over their tests -/

section
variable (b a : Operand) (s : State)
theorem exec_ifb : exec (.ifb b a) s = performIf testIfb b a s := rfl
theorem exec_ifc : exec (.ifc b a) s = performIf testIfc b a s := rfl
theorem exec_ife : exec (.ife b a) s = performIf testIfe b a s := rfl
theorem exec_ifn : exec (.ifn b a) s = performIf testIfn b a s := rfl
theorem exec_ifg : exec (.ifg b a) s = performIf testIfg b a s := rfl
theorem exec_ifa : exec (.ifa b a) s = performIf testIfa b a s := rfl
theorem exec_ifl : exec (.ifl b a) s = performIf testIfl b a s := rfl
theorem exec_ifu : exec (.ifu b a) s = performIf testIfu b a s := rfl
end

/-- An instruction of the frame R200 completes as a conditional on what its test decides. -/
theorem completesIf_of_performIf {i : Instr} {test : Word → Word → Bool} {b a : Operand} {s : State}
    {p : Prop} [Decidable p] (hi : exec i s = performIf test b a s)
    (ht : test (handleB b (handleA a s).state).value (handleA a s).value = true ↔ p) :
    CompletesIf i b a s p := by
  rw [CompletesIf, hi, ← if_congr ht rfl rfl]
  exact performIf_spec test b a s

end Sys2Proof.Machine

namespace Sys2Proof.Proofs

/-! ## The obligations -/

/-- Settles O5: decoder and skipper both ask the opcode field, which is the word modulo 32. -/
theorem conditionalsAreOpcodesTenToSeventeen : Obligations.ConditionalsAreOpcodesTenToSeventeen := by
  intro w
  refine ⟨?_, isConditionalWord_iff w⟩
  rw [← toNat_basicField]
  exact isConditional_decode w

/-- Settles O30: the eight share the frame R200, whose `skipping` turns on the test alone. -/
theorem conditionalsSkipWhenTheTestFails : Obligations.ConditionalsSkipWhenTheTestFails := by
  intro b a s
  refine ⟨⟨basicRow_of_encode (o := 0x10#5) rfl rfl, ?ifb⟩, ⟨basicRow_of_encode (o := 0x11#5) rfl rfl, ?ifc⟩,
    ⟨basicRow_of_encode (o := 0x12#5) rfl rfl, ?ife⟩, ⟨basicRow_of_encode (o := 0x13#5) rfl rfl, ?ifn⟩,
    ⟨basicRow_of_encode (o := 0x14#5) rfl rfl, ?ifg⟩, ⟨basicRow_of_encode (o := 0x15#5) rfl rfl, ?ifa⟩,
    ⟨basicRow_of_encode (o := 0x16#5) rfl rfl, ?ifl⟩, ⟨basicRow_of_encode (o := 0x17#5) rfl rfl, ?ifu⟩⟩
  case ifb => exact completesIf_of_performIf (exec_ifb b a s) (testIfb_iff _ _)
  case ifc => exact completesIf_of_performIf (exec_ifc b a s) (testIfc_iff _ _)
  case ife => exact completesIf_of_performIf (exec_ife b a s) (testIfe_iff _ _)
  case ifn => exact completesIf_of_performIf (exec_ifn b a s) (testIfn_iff _ _)
  case ifg => exact completesIf_of_performIf (exec_ifg b a s) (testIfg_iff _ _)
  case ifa => exact completesIf_of_performIf (exec_ifa b a s) (testIfa_iff _ _)
  case ifl => exact completesIf_of_performIf (exec_ifl b a s) (testIfl_iff _ _)
  case ifu => exact completesIf_of_performIf (exec_ifu b a s) (testIfu_iff _ _)

end Sys2Proof.Proofs
end

