-- ==== Sys2Proof/Proofs/Special.lean ====
section
/-! PROOFS. The obligations of 44_special.md: the instructions that write a back, those that move IA, and those that only
read a and change the control state. -/

open Sys2Proof Sys2Proof.Machine Sys2Proof.Claims

namespace Sys2Proof

/-! ## The first word of a SPECIAL instruction as a number (30_encoding.md R93) -/

theorem toNat_specialWord (o : BitVec 5) (a : Operand) :
    (specialWord o a).toNat = a.code.toNat * 1024 + o.toNat * 32 := by
  have ho : o.toNat < 2 ^ 5 := o.isLt
  rw [specialWord, BitVec.toNat_append, BitVec.toNat_append, ← Nat.shiftLeft_add_eq_or_of_lt ho]
  simp only [Nat.shiftLeft_eq, BitVec.toNat_ofNat, Nat.zero_mod, Nat.or_zero]
  omega

/-- A table row is settled by the word's opcode field and the cost. -/
theorem specialRow_of_encode {i : Instr} {o : BitVec 5} {c : Nat} {a : Operand}
    (hi : encode i = specialWord o a) (hc : opcodeCycles i = some c) : SpecialRow i o.toNat c a := by
  refine ⟨?_, hc⟩
  rw [hi, ← toNat_specialWord, BitVec.ofNat_toNat, BitVec.setWidth_eq]

end Sys2Proof

namespace Sys2Proof.Machine

/-! ## The meanings are the frames of R230 over their functions -/

section
variable (a : Operand) (s : State)
theorem exec_neg : exec (.neg a) s = performUnary (fun _ va => negValue va) a s := rfl
theorem exec_sxb : exec (.sxb a) s = performUnary (fun _ va => sxbValue va) a s := rfl
theorem exec_swp : exec (.swp a) s = performUnary (fun _ va => swpValue va) a s := rfl
theorem exec_iag :
    exec (.iag a) s = finish (writeLoc (resolveA a s).1 (resolveA a s).2.ia s.mask (resolveA a s).2) := rfl
theorem exec_ias : exec (.ias a) s = performRead (fun va t => t.setIa va) a s := rfl
theorem exec_iaq : exec (.iaq a) s = performRead (fun va t => t.setQueueing (va != 0#16)) a s := rfl
theorem exec_mmw : exec (.mmw a) s =
    performRead (fun va t => t.setEmu (emuMap t.emu (emuBlockField va) (emuPageField va))) a s := rfl
end

/-- An instruction that reads a and writes it back completes with what its function computes. -/
theorem completesA_of_performUnary {i : Instr} {f : State → Word → Word} {a : Operand} {s : State} {r : Word}
    (hi : exec i s = performUnary f a s) (hr : f (handleA a s).state (handleA a s).value = r) :
    CompletesA i a s r := by
  rw [CompletesA, hi, ← hr]
  exact performUnary_spec f a s

/-! ## Effects on the control state

An instruction that only reads a applies its effect to the state handling has moved. The statements speak of the effect on
the state before it, so the effect has to commute with what handling does. -/

/-- The effect neither reads nor writes PC, SP and the bus trace, and it leaves `skipping` alone. -/
def ActsOnControl (u : State → State) : Prop :=
  (∀ (s : State) (l : List BusEvent) (pc sp : Word),
    u (((s.setBus l).setPc pc).setSp sp) = (((u s).setBus l).setPc pc).setSp sp) ∧
  ∀ s : State, (u s).skipping = s.skipping

theorem actsOnControl_setIa (v : Word) : ActsOnControl fun t => t.setIa v :=
  ⟨fun _ _ _ _ => rfl, fun _ => rfl⟩

theorem actsOnControl_setQueueing (q : Bool) : ActsOnControl fun t => t.setQueueing q :=
  ⟨fun _ _ _ _ => rfl, fun _ => rfl⟩

theorem actsOnControl_setEmu (f : Vector PageNo 16 → Vector PageNo 16) :
    ActsOnControl fun t => t.setEmu (f t.emu) :=
  ⟨fun _ _ _ _ => rfl, fun _ => rfl⟩

/-- An effect on the control state, applied to a moved state, is the moved state of its effect. -/
theorem ActsOnControl.apply_moved {u : State → State} (hu : ActsOnControl u) {s h : State} (mv : MovedOnly s h) :
    u h = (((u s).setBus h.bus).setPc h.pc).setSp h.sp :=
  (congrArg u mv).trans (hu.1 s h.bus h.pc h.sp)

/-- What an instruction that only reads a does when its effect is on the control state (R230). -/
theorem completesControl_of_performRead {i : Instr} {f : Word → State → State} {a : Operand} {s : State}
    (hi : exec i s = performRead f a s) (hu : ActsOnControl (f (handleA a s).value)) :
    CompletesControl i a s (f (handleA a s).value s) := by
  have heff := hu.apply_moved (handleA_moved a s)
  have hmoved : MovedOnly (f (handleA a s).value s) (f (handleA a s).value (handleA a s).state) := by
    rw [heff]; rfl
  have hdone := onlyHandled_finish hmoved
  rw [hu.2] at hdone
  refine ⟨_, hi, ?_⟩
  rw [heff] at hdone ⊢
  exact hdone

/-! ## The values in the spec's terms -/

theorem negValue_eq (va : Word) : negValue va = BitVec.ofInt 16 (0 - (va.toNat : Int)) := by
  apply BitVec.eq_of_toNat_eq
  simp only [negValue, BitVec.toNat_sub, BitVec.toNat_ofInt, BitVec.toNat_ofNat]
  omega

theorem toNat_joinOctets (hi lo : Octet) : (joinOctets hi lo).toNat = hi.toNat * 256 + lo.toNat := by
  have hlo : lo.toNat < 2 ^ 8 := lo.isLt
  rw [joinOctets, BitVec.toNat_append, ← Nat.shiftLeft_add_eq_or_of_lt hlo, Nat.shiftLeft_eq]

theorem toNat_lo8 (v : Word) : (lo8 v).toNat = v.toNat % 256 := by
  simp [lo8]

theorem toNat_hi8 (v : Word) : (hi8 v).toNat = v.toNat / 256 := by
  have hlt : v.toNat / 256 < 256 := by omega
  simp [hi8, Nat.shiftRight_eq_div_pow, Nat.mod_eq_of_lt hlt]

theorem swpValue_eq (va : Word) :
    swpValue va = BitVec.ofNat 16 (va.toNat % 256 * 256 + va.toNat / 256) := by
  rw [← toNat_lo8, ← toNat_hi8, ← toNat_joinOctets, BitVec.ofNat_toNat, BitVec.setWidth_eq]
  rfl

/-- Masking with 0x00ff leaves the low octet under a zero one. -/
theorem and_00ff_eq_joinOctets (va : Word) : va &&& 0x00ff#16 = joinOctets 0#8 (lo8 va) := by
  calc va &&& 0x00ff#16 = (hi8 va ++ lo8 va) &&& (0x00#8 ++ 0xff#8) := by
        rw [← joinOctets, joinOctets_hi8_lo8]; rfl
    _ = joinOctets 0#8 (lo8 va) := by
        rw [BitVec.and_append, BitVec.and_zero, show 0xff#8 = BitVec.allOnes 8 from rfl, BitVec.and_allOnes, joinOctets]

theorem or_ff00_joinOctets (lo : Octet) : 0xff00#16 ||| joinOctets 0#8 lo = joinOctets 0xff#8 lo := by
  revert lo; decide

/-- Sign extension puts the octet under eight copies of its sign (R246). -/
theorem sext8_eq_joinOctets (lo : Octet) : sext8 lo = joinOctets (if lo.getLsbD 7 then 0xff#8 else 0#8) lo := by
  revert lo; decide

theorem sxbValue_eq (va : Word) :
    sxbValue va = if va.getLsbD 7 then 0xff00#16 ||| (va &&& 0x00ff#16) else va &&& 0x00ff#16 := by
  have hsign : (lo8 va).getLsbD 7 = va.getLsbD 7 := by simp [lo8]
  rw [sxbValue, sext8_eq_joinOctets, hsign, and_00ff_eq_joinOctets, or_ff00_joinOctets]
  split <;> rfl

/-- IAQ's test for nonzero as a proposition (R239). -/
theorem bne_zero_eq_decide (va : Word) : (va != 0#16) = decide (va ≠ 0#16) :=
  Bool.eq_iff_iff.2 (bne_iff_ne.trans decide_eq_true_iff.symm)

/-! ## The fields of an EMU value as numbers (R244) -/

theorem toNat_emuBlockField (va : Word) : (emuBlockField va).toNat = va.toNat % 16 := by
  simp [emuBlockField]

theorem toNat_emuPageField (va : Word) : (emuPageField va).toNat = va.toNat / 16 := by
  have hlt : va.toNat / 16 < 4096 := by omega
  simp [emuPageField, Nat.shiftRight_eq_div_pow, Nat.mod_eq_of_lt hlt]

/-- The EMU after MMW, block by block: the named block is on the named page, every other where it was. -/
theorem toNat_emuPage_emuMap_fields (e : Vector PageNo 16) (va : Word) (c : BlockNo) :
    (emuPage (emuMap e (emuBlockField va) (emuPageField va)) c).toNat =
      if c.toNat = va.toNat % 16 then va.toNat / 16 else (emuPage e c).toNat := by
  have hnamed : emuBlockField va = c ↔ c.toNat = va.toNat % 16 := by
    rw [← toNat_emuBlockField, BitVec.toNat_inj, eq_comm]
  rw [emuPage_emuMap, apply_ite BitVec.toNat, toNat_emuPageField, if_congr hnamed rfl rfl]

end Sys2Proof.Machine

namespace Sys2Proof.Proofs

/-! ## The obligations -/

/-- Settles O35: the three share the frame R230 that writes a back, and differ in the value alone. -/
theorem unaryInstructionsWriteBack : Obligations.UnaryInstructionsWriteBack := by
  intro a s
  refine ⟨⟨specialRow_of_encode (o := 0x05#5) rfl rfl, ?neg⟩, ⟨specialRow_of_encode (o := 0x14#5) rfl rfl, ?sxb⟩,
    ⟨specialRow_of_encode (o := 0x15#5) rfl rfl, ?swp⟩⟩
  case neg => exact completesA_of_performUnary (exec_neg a s) (negValue_eq _)
  case sxb => exact completesA_of_performUnary (exec_sxb a s) (sxbValue_eq _)
  case swp => exact completesA_of_performUnary (exec_swp a s) (swpValue_eq _)

/-- Settles O38: IAG writes through a's location, which is resolved and not read, the IA that resolving has kept; IAS writes
IA past the mask. -/
theorem iagAndIasMoveIa : Obligations.IagAndIasMoveIa := by
  intro a s
  refine ⟨⟨specialRow_of_encode (o := 0x09#5) rfl rfl, ?iag⟩, ⟨specialRow_of_encode (o := 0x0a#5) rfl rfl, ?ias⟩⟩
  case iag =>
    have mv := resolveA_moved a s
    obtain ⟨-, -, hia, -⟩ := mv.fields
    rw [exec_iag, hia]
    exact ⟨_, rfl, rfl, (wrote_writeLoc_same_ex mv _ _ _).setMask .none⟩
  case ias => exact completesControl_of_performRead (exec_ias a s) (actsOnControl_setIa _)

/-- Settles O40: the effect is on `queueing` alone, and the model's test for nonzero is the statement's. -/
theorem iaqSetsQueueing : Obligations.IaqSetsQueueing := by
  intro a s
  refine ⟨specialRow_of_encode (o := 0x0c#5) rfl rfl, ?_⟩
  rw [← bne_zero_eq_decide]
  exact completesControl_of_performRead (exec_iaq a s) (actsOnControl_setQueueing _)

/-- Settles O41: the effect is on the EMU alone, and setting one entry of the vector leaves the fifteen others. -/
theorem mmwMapsOneBlock : Obligations.MmwMapsOneBlock := by
  intro a s
  refine ⟨specialRow_of_encode (o := 0x0e#5) rfl rfl, _, ?_, toNat_emuPage_emuMap_fields s.emu (handleA a s).value⟩
  exact completesControl_of_performRead (exec_mmw a s) (actsOnControl_setEmu fun e => emuMap e _ _)

end Sys2Proof.Proofs
end

section
/-! PROOFS. The obligations of 60_exceptions.md: what the instruction boundary does with the message at the head of the
queue. -/

open Sys2Proof Sys2Proof.Machine Sys2Proof.Claims

namespace Sys2Proof.Machine

/-! ## The two halves of a boundary (R305, R306) -/

/-- With the conditions met, the boundary takes the head off the queue and triggers it (R305). -/
theorem boundary_of_mayTrigger {s : State} {msg : Word} {rest : List Word} (hq : s.queue = msg :: rest)
    (hm : mayTrigger s = true) : boundary s = trigger msg (s.setQueue rest) := by
  simp only [boundary, hq, hm, if_true]

/-- "If IA is set to 0, a triggered interrupt does nothing" (R306). -/
theorem trigger_of_ia_zero {s : State} (hia : s.ia = 0#16) (msg : Word) : trigger msg s = s := if_pos hia

end Sys2Proof.Machine

namespace Sys2Proof.Proofs

/-! ## The obligations -/

/-- Settles O48: the premises are the trigger conditions of R305, so the head leaves the queue; taking it off keeps IA, which
is 0, so its trigger does nothing. -/
theorem triggerWithIaZeroDiscardsTheMessage : Obligations.TriggerWithIaZeroDiscardsTheMessage := by
  intro s msg rest hq hrun hqueueing hskipping hmask hia
  have hm : mayTrigger s = true := (mayTrigger_iff s).2 ⟨hrun, hqueueing, hskipping, hmask⟩
  have hia' : (s.setQueue rest).ia = 0#16 := by rw [State.setQueue_ia, hia]
  calc boundary s
      _ = trigger msg (s.setQueue rest) := boundary_of_mayTrigger hq hm
      _ = s.setQueue rest := trigger_of_ia_zero hia' msg

end Sys2Proof.Proofs
end

section
/-! PROOFS. The obligations of 30_encoding.md: decoding and encoding are inverse to each other. -/

open Sys2Proof Sys2Proof.Machine Sys2Proof.Claims

namespace Sys2Proof

/-! ## Decoding what was encoded: one opcode at a time (R96 to R98) -/

/-- The format of an instruction fixes which fields its word is read back from; the opcode then picks the constructor. -/
theorem decode_encode {i : Instr} (hwf : i.wf = true) : decode (encode i) = i := by
  cases i with
  | set b a | add b a | sub b a | mul b a | mli b a | div b a | dvi b a | mod b a | mdi b a | and b a | bor b a
  | xor b a | shr b a | asr b a | shl b a | ifb b a | ifc b a | ife b a | ifn b a | ifg b a | ifa b a | ifl b a
  | ifu b a | reservedBasic18 b a | reservedBasic19 b a | adx b a | sbx b a | hww b a | hwr b a | sti b a | std b a =>
    exact decode_basicWord a (by decide) hwf
  | jsr a | bsr a | reservedSpecial03 a | reservedSpecial04 a | neg a | reservedSpecial06 a | hcf a | int a | iag a
  | ias a | rfi a | iaq a | reservedSpecial0d a | mmw a | mmr a | reservedSpecial10 a | reservedSpecial11 a
  | reservedSpecial12 a | reservedSpecial13 a | sxb a | swp a | reservedSpecial16 a | reservedSpecial17 a
  | reservedSpecial18 a | reservedSpecial19 a | reservedSpecial1a a | reservedSpecial1b a | reservedSpecial1c a
  | reservedSpecial1d a | reservedSpecial1e a | reservedSpecial1f a =>
    exact decode_specialWord a (by decide)
  | hlt v | slp v | reservedImplied02 v | reservedImplied03 v | byt v | reservedImplied05 v | reservedImplied06 v
  | reservedImplied07 v | reservedImplied08 v | reservedImplied09 v | reservedImplied0a v | reservedImplied0b v
  | reservedImplied0c v | reservedImplied0d v | reservedImplied0e v | reservedImplied0f v | skp v | reservedImplied11 v
  | reservedImplied12 v | reservedImplied13 v | reservedImplied14 v | reservedImplied15 v | reservedImplied16 v
  | reservedImplied17 v | reservedImplied18 v | reservedImplied19 v | reservedImplied1a v | reservedImplied1b v
  | reservedImplied1c v | reservedImplied1d v | reservedImplied1e v | reservedImplied1f v =>
    exact decode_impliedWord _ v

/-! ## Encoding what was decoded: the opcode number is the one the constructor is encoded with -/

theorem encode_decodeBasic {o : BitVec 5} (ho : o ≠ 0#5) (b a : Operand) :
    encode (decodeBasic o b a) = basicWord o b a := by
  obtain ⟨n, hn⟩ := o
  interval_cases n
  · exact absurd rfl ho
  all_goals rfl

theorem encode_decodeSpecial {o : BitVec 5} (ho : o ≠ 0#5) (a : Operand) :
    encode (decodeSpecial o a) = specialWord o a := by
  obtain ⟨n, hn⟩ := o
  interval_cases n
  · exact absurd rfl ho
  all_goals rfl

theorem encode_decodeImplied (o : BitVec 5) (v : Bool) : encode (decodeImplied o v) = impliedWord o v := by
  revert o v; decide

/-! ## What is decoded is well-formed: only operand b can fail, and its field holds no inline literal (R122) -/

theorem wf_decodeBasic (o : BitVec 5) (b a : Operand) : (decodeBasic o b a).wf = b.wfB := by
  unfold decodeBasic; split <;> rfl

theorem wf_decodeSpecial (o : BitVec 5) (a : Operand) : (decodeSpecial o a).wf = true := by
  unfold decodeSpecial; split <;> rfl

theorem wf_decodeImplied (o : BitVec 5) (v : Bool) : (decodeImplied o v).wf = true := by
  unfold decodeImplied; split <;> rfl

theorem wfB_operandOfCode_setWidth (c : BitVec 5) : (operandOfCode (c.setWidth 6)).wfB = true := by
  revert c; decide

theorem wf_decode (w : Word) : (decode w).wf = true := by
  unfold decode
  split
  · rw [wf_decodeBasic, wfB_operandOfCode_setWidth]
  · split
    · exact wf_decodeSpecial _ _
    · exact wf_decodeImplied _ _

/-! ## The fields of a word put back together are the word, in the two formats with opcode field 0 -/

/-- A word is its three five or six bit fields (R92). -/
theorem fields_append (w : Word) : aField w ++ midField w ++ basicField w = w := by
  rw [basicField, midField, aField, BitVec.extractLsb'_append_extractLsb'_eq_extractLsb' (by decide),
    BitVec.extractLsb'_append_extractLsb'_eq_extractLsb' (by decide)]
  simp

theorem specialWord_fields {w : Word} (h0 : basicField w = 0#5) :
    specialWord (midField w) (operandOfCode (aField w)) = w := by
  rw [specialWord, code_operandOfCode, ← h0, fields_append]

/-- Bit 15 and bits 14:10 are bits 15:10. -/
theorem vField_append_impliedField (w : Word) : BitVec.ofBool (vField w) ++ impliedField w = aField w := by
  apply BitVec.eq_of_getLsbD_eq
  intro k hk
  rw [BitVec.getLsbD_append, impliedField, aField, vField]
  interval_cases k <;> simp

theorem impliedWord_fields {w : Word} (h0 : basicField w = 0#5) (h1 : midField w = 0#5) :
    impliedWord (impliedField w) (vField w) = w := by
  have hzero : (0#10) = midField w ++ basicField w := by rw [h0, h1]; rfl
  have hassoc : aField w ++ midField w ++ basicField w = aField w ++ (midField w ++ basicField w) := by
    rw [BitVec.append_assoc, BitVec.cast_eq]
  rw [impliedWord, vField_append_impliedField, hzero, ← hassoc, fields_append]

theorem encode_decode (w : Word) : encode (decode w) = w := by
  unfold decode
  split
  next hbasic => rw [encode_decodeBasic hbasic, basicWord_fields]
  next hbasic =>
    split
    next hmid => rw [encode_decodeSpecial hmid, specialWord_fields (not_not.1 hbasic)]
    next hmid => rw [encode_decodeImplied, impliedWord_fields (not_not.1 hbasic) (not_not.1 hmid)]

end Sys2Proof

namespace Sys2Proof.Proofs

/-! ## The obligations -/

/-- Settles O1: fourteen closed words, each decoded by computation. -/
theorem firstWordsOfTheSpecDecode : Obligations.FirstWordsOfTheSpecDecode := by
  unfold Obligations.FirstWordsOfTheSpecDecode
  decide

/-- Settles O2: every constructor's first word is read back field by field. -/
theorem decodeInvertsEncode : Obligations.DecodeInvertsEncode := fun _ => decode_encode

/-- Settles O3: decoding has encoding as its inverse on both sides, so a second well-formed instruction with the same word
would decode to itself and to the first. -/
theorem everyFirstWordIsOneInstruction : Obligations.EveryFirstWordIsOneInstruction := fun w =>
  ⟨wf_decode w, encode_decode w, fun _ hwf hword => hword ▸ (decode_encode hwf).symm⟩

end Sys2Proof.Proofs
end

section
/-! PROOFS. The meanings of the instructions as frames over their functions, for those the sections above have not named. -/

open Sys2Proof Sys2Proof.Machine Sys2Proof.Claims

namespace Sys2Proof.Machine

section
variable (b a : Operand) (v : Bool) (s : State)
theorem exec_adx : exec (.adx b a) s = performAlu aluAdx b a s := rfl
theorem exec_sbx : exec (.sbx b a) s = performAlu aluSbx b a s := rfl
theorem exec_dvi : exec (.dvi b a) s = performAlu aluDvi b a s := rfl
theorem exec_mdi : exec (.mdi b a) s = performAlu aluMdi b a s := rfl
theorem exec_shr : exec (.shr b a) s = performAlu aluShr b a s := rfl
theorem exec_asr : exec (.asr b a) s = performAlu aluAsr b a s := rfl
theorem exec_shl : exec (.shl b a) s = performAlu aluShl b a s := rfl
theorem exec_hww : exec (.hww b a) s =
    finish (ioWrite (handleB b (handleA a s).state).value (handleA a s).value
      (handleB b (handleA a s).state).state) := rfl
theorem exec_hwr : exec (.hwr b a) s =
    finish (writeLoc (resolveA a s).1
      (ioRead (handleB b (resolveA a s).2).value (handleB b (resolveA a s).2).state).1 s.mask
      (ioRead (handleB b (resolveA a s).2).value (handleB b (resolveA a s).2).state).2) := rfl
theorem exec_jsr : exec (.jsr a) s = performRead (fun va t => (push t.pc t).setPc va) a s := rfl
theorem exec_bsr : exec (.bsr a) s = performRead (fun va t => (push t.pc t).setPc (t.pc + va)) a s := rfl
theorem exec_int : exec (.int a) s = performRead enqueue a s := rfl
theorem exec_rfi : exec (.rfi a) s = performRead (fun _ t => returnFromInterrupt t) a s := rfl
theorem exec_mmr : exec (.mmr a) s = performUnary (fun t va => mmrValue t.emu va) a s := rfl
theorem exec_hlt : exec (.hlt v) s =
    finish (if interruptsEnabled s then enqueue 0#16 s else s.setRun .halted) := rfl
theorem exec_slp : exec (.slp v) s = finish (s.setRun .sleeping) := rfl
theorem exec_skp : exec (.skp v) s = finish (s.setSkipping true) := rfl
theorem exec_byt : exec (.byt v) s =
    .next (s.setMask (if s.mask = .none then (if v then .keepHigh else .keepLow) else .none)) := rfl
end

/-- A bus transfer changes the trace alone, so a moved state stays one (R68, R69). -/
theorem MovedOnly.setBus {s h : State} (mv : MovedOnly s h) (l : List BusEvent) : MovedOnly s (h.setBus l) :=
  mv.trans rfl

/-- HLT's test is IA against 0 (R272). -/
theorem interruptsEnabled_iff (s : State) : interruptsEnabled s = true ↔ s.ia ≠ 0#16 := bne_iff_ne

end Sys2Proof.Machine
end

section
/-! PROOFS. Rules of the whole machine: which frame each instruction has, and from that what performing any instruction, and
any step, can change. -/

open Sys2Proof Sys2Proof.Machine Sys2Proof.Claims

namespace Sys2Proof.Machine

/-! ## Confined changes: what an instruction may change without having any effect on the control state -/

/-- `t` differs from `s` in general registers, PC, SP, EX, mask and trace, and in memory by octet stores alone. -/
def Confined (s t : State) : Prop := SameControl s t ∧ ∃ stores, t.mem = memAfterAll s stores

theorem confined_of_same_mem {s t : State} (hc : SameControl s t) (hm : t.mem = s.mem) : Confined s t := ⟨hc, [], hm⟩

theorem SameControl.refl (s : State) : SameControl s s := ⟨rfl, rfl, rfl, rfl, rfl, rfl, rfl, rfl, rfl⟩

theorem SameControl.trans {s t u : State} (hst : SameControl s t) (htu : SameControl t u) : SameControl s u := by
  obtain ⟨h1, h2, h3, h4, h5, h6, h7, h8, h9⟩ := hst
  obtain ⟨k1, k2, k3, k4, k5, k6, k7, k8, k9⟩ := htu
  exact ⟨k1.trans h1, k2.trans h2, k3.trans h3, k4.trans h4, k5.trans h5, k6.trans h6, k7.trans h7, k8.trans h8,
    k9.trans h9⟩

theorem Confined.refl (s : State) : Confined s s := confined_of_same_mem (.refl s) rfl

/-- Stores after stores are stores: the EMU and the physical map have not changed between the two. -/
theorem Confined.trans {s t u : State} (hst : Confined s t) (htu : Confined t u) : Confined s u := by
  obtain ⟨hc, l, hm⟩ := hst
  obtain ⟨kc, k, km⟩ := htu
  obtain ⟨-, -, -, -, hemu, -, hphys, -⟩ := id hc
  exact ⟨hc.trans kc, l ++ k, by simp only [km, memAfterAll, hemu, hphys, hm, List.foldl_append]⟩

theorem MovedOnly.confined {s h : State} (mv : MovedOnly s h) : Confined s h := by
  obtain ⟨-, -, hia, hsk, hqg, -, hq, he, hr, hm, hp, har, hmo⟩ := mv.fields
  exact confined_of_same_mem ⟨hia, hsk, hqg, hq, he, hr, hp, har, hmo⟩ hm

theorem setGpr_confined (g : Gpr) (s : State) : Confined s (s.setGpr g) := .refl s

theorem setMask_confined (m : ByteMask) (s : State) : Confined s (s.setMask m) := .refl s

theorem writeLoc_confined (l : Loc) (v : Word) (m : ByteMask) (s : State) : Confined s (writeLoc l v m s) := by
  rw [writeLoc_eq]
  cases l with
  | mem addr => exact ⟨.refl s, _, rfl⟩
  | _ => exact .refl s

theorem putEx_confined (ex : Option Word) (s : State) : Confined s (putEx ex s) := by
  cases ex <;> exact .refl s

theorem push_confined (v : Word) (s : State) : Confined s (push v s) := by
  rw [push_eq]; exact ⟨.refl s, _, rfl⟩

theorem Confined.mem_wf {s t : State} (hc : Confined s t) (hwf : s.mem.wf = true) : t.mem.wf = true := by
  obtain ⟨-, stores, hm⟩ := hc
  rw [hm]; exact memAfterAll_wf s stores hwf

/-! ## Effects on the control state, one constructor per kind -/

/-- What an instruction may do to the control state, besides its confined changes (10_state.md sections 5 and 6). -/
inductive ControlEffect (i : Instr) (u : State) : State → Prop
  | none : ControlEffect i u u
  | skip (hi : IsConditional i ∨ ∃ v, i = .skp v) : ControlEffect i u (u.setSkipping true)
  | enqueue (msg : Word) (hi : (∃ a, i = .int a) ∨ (u.ia ≠ 0#16 ∧ ∃ v, i = .hlt v)) : ControlEffect i u (enqueue msg u)
  | ia (v : Word) (hi : ∃ a, i = .ias a) : ControlEffect i u (u.setIa v)
  | queueing (q : Bool) (hi : ∃ a, i = .iaq a ∨ i = .rfi a) : ControlEffect i u (u.setQueueing q)
  | emu (e : Vector PageNo 16) (hi : ∃ a, i = .mmw a) : ControlEffect i u (u.setEmu e)
  | halt (hia : u.ia = 0#16) (hi : ∃ v, i = .hlt v) : ControlEffect i u (u.setRun .halted)
  | sleep (hi : ∃ v, i = .slp v) : ControlEffect i u (u.setRun .sleeping)
  | burn (hi : ∃ a, i = .hcf a) : ControlEffect i u (u.setRun .onFire)
  | reserved (hi : IsReserved i) : ControlEffect i u (u.setRun (.faulted (.reservedOpcode (encode i))))

/-- A message that finds room goes to the tail (R303). -/
theorem enqueue_of_lt {s : State} (h : s.queue.length < 256) (msg : Word) :
    enqueue msg s = s.setQueue (s.queue ++ [msg]) := if_pos h

/-- A message that finds the queue full sets the machine on fire (R304). -/
theorem enqueue_of_le {s : State} (h : 256 ≤ s.queue.length) (msg : Word) : enqueue msg s = s.setRun .onFire :=
  if_neg (Nat.not_lt.2 h)

/-- Enqueue touches the queue or the run state, and nothing else. -/
theorem enqueue_eq (msg : Word) (s : State) : ∃ q r, enqueue msg s = (s.setQueue q).setRun r := by
  rcases enqueue_cases msg s with ⟨-, h⟩ | ⟨-, h⟩
  · exact ⟨s.queue ++ [msg], s.run, h⟩
  · exact ⟨s.queue, .onFire, h⟩

theorem enqueue_setMask (msg : Word) (s : State) (m : ByteMask) :
    enqueue msg (s.setMask m) = (enqueue msg s).setMask m := by
  rcases Nat.lt_or_ge s.queue.length 256 with h | h
  · rw [enqueue_of_lt h, enqueue_of_lt (s := s.setMask m) h]; rfl
  · rw [enqueue_of_le h, enqueue_of_le (s := s.setMask m) h]; rfl

/-- An effect on the control state leaves EX and memory alone. -/
theorem ControlEffect.ex_mem {i : Instr} {u t : State} (h : ControlEffect i u t) : t.ex = u.ex ∧ t.mem = u.mem := by
  cases h with
  | enqueue msg hi => obtain ⟨q, r, he⟩ := enqueue_eq msg u; rw [he]; exact ⟨rfl, rfl⟩
  | _ => exact ⟨rfl, rfl⟩

/-- The byte mask is no part of the control state: an effect commutes with using it up. -/
theorem ControlEffect.setMask {i : Instr} {u t : State} (h : ControlEffect i u t) (m : ByteMask) :
    ControlEffect i (u.setMask m) (t.setMask m) := by
  cases h with
  | none => exact .none
  | skip hi => exact .skip hi
  | enqueue msg hi => rw [← enqueue_setMask]; exact .enqueue msg hi
  | ia v hi => exact .ia v hi
  | queueing q hi => exact .queueing q hi
  | emu e hi => exact .emu e hi
  | halt hia hi => exact .halt hia hi
  | sleep hi => exact .sleep hi
  | burn hi => exact .burn hi
  | reserved hi => exact .reserved hi

/-! ## The frame of every instruction -/

/-- What the function of a frame that only reads a may do: confined changes, a control effect, and EX is kept. -/
def ReadEffect (i : Instr) (f : Word → State → State) : Prop :=
  ∀ v s, ∃ u, Confined s u ∧ ControlEffect i u (f v s) ∧ u.ex = s.ex

/-- The frame an instruction is performed in, with what its row of the tables says about EX, the mask and the effect. -/
inductive Frame (i : Instr) : Prop
  | alu (f : Word → Word → Word → AluOut) (b a : Operand) (he : ∀ s, exec i s = performAlu f b a s)
      (hx : HasExtraOutput i ∨ ((∀ vb va ex, (f vb va ex).ex = none) ∧ (b = .ex → DestinationIsEx i)))
      (hc : ¬IsConditional i)
  | move (f : State → State) (b a : Operand) (he : ∀ s, exec i s = performMove f b a s)
      (hf : ∀ u, ∃ g, f u = u.setGpr g) (hx : b = .ex → DestinationIsEx i) (hc : ¬IsConditional i)
  | test (p : Word → Word → Bool) (b a : Operand) (he : ∀ s, exec i s = performIf p b a s) (hc : IsConditional i)
  | unary (f : State → Word → Word) (a : Operand) (he : ∀ s, exec i s = performUnary f a s)
      (hx : a = .ex → DestinationIsEx i) (hc : ¬IsConditional i)
  | read (f : Word → State → State) (a : Operand) (he : ∀ s, exec i s = performRead f a s) (hf : ReadEffect i f)
      (hc : ¬IsConditional i)
  | iag (a : Operand) (hi : i = .iag a)
  | hww (b a : Operand) (hi : i = .hww b a)
  | hwr (b a : Operand) (hi : i = .hwr b a)
  | hcf (a : Operand) (hi : i = .hcf a)
  | byt (v : Bool) (hi : i = .byt v)
  | implied (f : State → State) (he : ∀ s, exec i s = finish (f s)) (hf : ∀ s, ControlEffect i s (f s))
      (hc : ¬IsConditional i)
  | reserved (he : ∀ s, exec i s = performReserved (encode i) s) (hr : IsReserved i) (hc : ¬IsConditional i)

theorem call_readEffect (i : Instr) (target : Word → Word → Word) :
    ReadEffect i fun va t => (push t.pc t).setPc (target t.pc va) := fun va s =>
  ⟨(push s.pc s).setPc (target s.pc va), (push_confined s.pc s).trans (.refl _), .none, by rw [push_eq]; rfl⟩

theorem returnFromInterrupt_readEffect (a : Operand) : ReadEffect (.rfi a) fun _ t => returnFromInterrupt t := by
  intro _ s
  obtain ⟨w, pc, l, he⟩ := returnFromInterrupt_eq s
  refine ⟨(((s.setBus l).setReg .a w).setSp (s.sp + 4#16)).setPc pc, .refl s, ?_, rfl⟩
  simp only [he]
  exact .queueing false ⟨a, .inr rfl⟩

theorem hlt_controlEffect (v : Bool) (s : State) :
    ControlEffect (.hlt v) s (if interruptsEnabled s then enqueue 0#16 s else s.setRun .halted) := by
  rw [if_congr (interruptsEnabled_iff s) rfl rfl]
  split
  next hia => exact .enqueue 0#16 (.inr ⟨hia, v, rfl⟩)
  next hia => exact .halt (not_not.1 hia) ⟨v, rfl⟩

/-- STI and STD's further effect is on I and J alone. -/
theorem stepPointers_setGpr (d : Word) (s : State) : ∃ g, stepPointers d s = s.setGpr g :=
  ⟨((s.gpr.set .i (s.reg .i + d)).set .j ((s.setReg .i (s.reg .i + d)).reg .j + d)), rfl⟩

/-- Every instruction has a frame (41_basic_alu.md R150, 42_conditionals.md R200, 43_io.md, 44_special.md R230, 45_implied.md,
30_encoding.md R101). -/
theorem exec_frame (i : Instr) : Frame i := by
  cases i with
  | add b a | sub b a | mul b a | mli b a | div b a | dvi b a | shr b a | asr b a | shl b a | adx b a | sbx b a =>
    exact .alu _ b a (fun _ => rfl) (.inl trivial) id
  | mod b a | mdi b a | and b a | bor b a | xor b a =>
    exact .alu _ b a (fun _ => rfl) (.inr ⟨fun _ _ _ => rfl, by rintro rfl; trivial⟩) id
  | set b a => exact .move _ b a (fun _ => rfl) (fun u => ⟨u.gpr, rfl⟩) (by rintro rfl; trivial) id
  | sti b a | std b a => exact .move _ b a (fun _ => rfl) (stepPointers_setGpr _) (by rintro rfl; trivial) id
  | ifb b a | ifc b a | ife b a | ifn b a | ifg b a | ifa b a | ifl b a | ifu b a =>
    exact .test _ b a (fun _ => rfl) trivial
  | neg a => exact .unary _ a (exec_neg a) (by rintro rfl; trivial) id
  | mmr a => exact .unary _ a (exec_mmr a) (by rintro rfl; trivial) id
  | sxb a => exact .unary _ a (exec_sxb a) (by rintro rfl; trivial) id
  | swp a => exact .unary _ a (exec_swp a) (by rintro rfl; trivial) id
  | jsr a => exact .read _ a (exec_jsr a) (call_readEffect _ fun _ va => va) id
  | bsr a => exact .read _ a (exec_bsr a) (call_readEffect _ fun pc va => pc + va) id
  | int a => exact .read _ a (exec_int a) (fun v s => ⟨s, .refl s, .enqueue v (.inl ⟨a, rfl⟩), rfl⟩) id
  | ias a => exact .read _ a (exec_ias a) (fun v s => ⟨s, .refl s, .ia v ⟨a, rfl⟩, rfl⟩) id
  | iaq a => exact .read _ a (exec_iaq a) (fun _ s => ⟨s, .refl s, .queueing _ ⟨a, .inl rfl⟩, rfl⟩) id
  | mmw a => exact .read _ a (exec_mmw a) (fun _ s => ⟨s, .refl s, .emu _ ⟨a, rfl⟩, rfl⟩) id
  | rfi a => exact .read _ a (exec_rfi a) (returnFromInterrupt_readEffect a) id
  | iag a => exact .iag a rfl
  | hww b a => exact .hww b a rfl
  | hwr b a => exact .hwr b a rfl
  | hcf a => exact .hcf a rfl
  | byt v => exact .byt v rfl
  | hlt v => exact .implied _ (fun _ => rfl) (hlt_controlEffect v) id
  | slp v => exact .implied _ (fun _ => rfl) (fun _ => .sleep ⟨v, rfl⟩) id
  | skp v => exact .implied _ (fun _ => rfl) (fun _ => .skip (.inr ⟨v, rfl⟩)) id
  | reservedBasic18 b a | reservedBasic19 b a => exact .reserved (fun _ => rfl) rfl id
  | reservedSpecial03 a | reservedSpecial04 a | reservedSpecial06 a | reservedSpecial0d a | reservedSpecial10 a
  | reservedSpecial11 a | reservedSpecial12 a | reservedSpecial13 a | reservedSpecial16 a | reservedSpecial17 a
  | reservedSpecial18 a | reservedSpecial19 a | reservedSpecial1a a | reservedSpecial1b a | reservedSpecial1c a
  | reservedSpecial1d a | reservedSpecial1e a | reservedSpecial1f a => exact .reserved (fun _ => rfl) rfl id
  | reservedImplied02 v | reservedImplied03 v | reservedImplied05 v | reservedImplied06 v | reservedImplied07 v
  | reservedImplied08 v | reservedImplied09 v | reservedImplied0a v | reservedImplied0b v | reservedImplied0c v
  | reservedImplied0d v | reservedImplied0e v | reservedImplied0f v | reservedImplied11 v | reservedImplied12 v
  | reservedImplied13 v | reservedImplied14 v | reservedImplied15 v | reservedImplied16 v | reservedImplied17 v
  | reservedImplied18 v | reservedImplied19 v | reservedImplied1a v | reservedImplied1b v | reservedImplied1c v
  | reservedImplied1d v | reservedImplied1e v | reservedImplied1f v => exact .reserved (fun _ => rfl) rfl id

/-! ## What performing any instruction does, from its frame -/

/-- HWR writes the bus's answer to a's location, the trace having gained the read (R222). -/
theorem exec_hwr_spec (b a : Operand) (s : State) :
    ∃ t, exec (.hwr b a) s = .next t ∧ t.mask = .none ∧
      Wrote s (ioRead (handleB b (resolveA a s).2).value (handleB b (resolveA a s).2).state).2 t (resolveA a s).1
        (ioRead (handleB b (resolveA a s).2).value (handleB b (resolveA a s).2).state).1 s.ex s.mask :=
  ⟨_, exec_hwr b a s, rfl,
    (wrote_writeLoc_same_ex (((resolveA_moved a s).trans (handleB_moved b _)).setBus _) _ _ _).setMask _⟩

/-- HCF, up to its free values: EX is one, and what is stored in a, if anything is, is another (R234; log 8). -/
theorem exec_hcf (a : Operand) (s : State) : ∃ u, exec (.hcf a) s = finish (u.setRun .onFire) ∧ Confined s u := by
  have hex : Confined s ((resolveA a s).2.setEx (Config.hcfEx (resolveA a s).2.bus (resolveA a s).2.ex)) :=
    (resolveA_moved a s).confined.trans (.refl _)
  refine ⟨_, rfl, ?_⟩
  split
  · exact hex.trans (writeLoc_confined ..)
  · exact hex

/-- The end of an instruction keeps the shape: using the mask up is itself confined, and the effect does not see it. -/
theorem effect_finish {i : Instr} {s u v t : State} (hu : Confined s u) (he : ControlEffect i u v)
    (ht : finish v = .next t) : ∃ w, Confined s w ∧ ControlEffect i w t := by
  cases ht
  exact ⟨u.setMask .none, hu.trans (.refl _), he.setMask .none⟩

/-- Performing any instruction is a confined change and then one effect on the control state. -/
theorem exec_effect {i : Instr} {s t : State} (h : exec i s = .next t) :
    ∃ u, Confined s u ∧ ControlEffect i u t := by
  have hA (a : Operand) : Confined s (handleA a s).state := (handleA_moved a s).confined
  have hAB (b a : Operand) : Confined s (handleB b (handleA a s).state).state :=
    (hA a).trans (handleB_moved b _).confined
  cases exec_frame i with
  | alu f b a he =>
    rw [he] at h
    exact effect_finish (((hAB b a).trans (putEx_confined ..)).trans (writeLoc_confined ..)) .none h
  | move f b a he hf =>
    rw [he, performMove] at h
    obtain ⟨g, hg⟩ := hf (writeLoc (resolveB b (handleA a s).state).1 (handleA a s).value s.mask
      (resolveB b (handleA a s).state).2)
    rw [hg] at h
    exact effect_finish
      ((((hA a).trans (resolveB_moved b _).confined).trans (writeLoc_confined ..)).trans (setGpr_confined g _)) .none h
  | test p b a he hc =>
    rw [he, performIf] at h
    split at h <;> cases h
    · exact ⟨_, hAB b a, .none⟩
    · exact ⟨_, hAB b a, .skip (.inl hc)⟩
  | unary f a he =>
    rw [he] at h
    exact effect_finish ((hA a).trans (writeLoc_confined ..)) .none h
  | read f a he hf =>
    rw [he] at h
    obtain ⟨u, hu, heff, -⟩ := hf (handleA a s).value (handleA a s).state
    exact effect_finish ((hA a).trans hu) heff h
  | iag a hi =>
    subst hi
    exact effect_finish ((resolveA_moved a s).confined.trans (writeLoc_confined ..)) .none h
  | hww b a hi =>
    subst hi
    exact effect_finish (((handleA_moved a s).trans (handleB_moved b _)).setBus _).confined .none h
  | hwr b a hi =>
    subst hi
    have hb := ((resolveA_moved a s).trans (handleB_moved b _)).setBus
      (ioRead (handleB b (resolveA a s).2).value (handleB b (resolveA a s).2).state).2.bus
    exact effect_finish (hb.confined.trans (writeLoc_confined ..)) .none h
  | hcf a hi =>
    subst hi
    obtain ⟨u, he, hu⟩ := exec_hcf a s
    exact effect_finish hu (.burn ⟨a, rfl⟩) (he ▸ h)
  | byt v hi => subst hi; cases h; exact ⟨_, setMask_confined _ s, .none⟩
  | implied f he hf => rw [he] at h; exact effect_finish (.refl s) (hf s) h
  | reserved he hr => rw [he] at h; cases h; exact ⟨s, .refl s, .reserved hr⟩

/-- A conditional leaves a pending mask, and every other defined instruction but BYT uses it up (R212, R275, R277). -/
theorem exec_mask {i : Instr} {s t : State} (h : exec i s = .next t) :
    (IsConditional i → t.mask = s.mask) ∧ (¬IsConditional i → ¬IsReserved i → (∀ v, i ≠ .byt v) → t.mask = .none) := by
  have hdone {u v : State} (hu : finish u = .next v) : v.mask = .none := by cases hu; rfl
  cases exec_frame i with
  | alu f b a he _ hc => rw [he] at h; exact ⟨fun hi => absurd hi hc, fun _ _ _ => hdone h⟩
  | move f b a he _ _ hc => rw [he] at h; exact ⟨fun hi => absurd hi hc, fun _ _ _ => hdone h⟩
  | test p b a he hc =>
    obtain ⟨u, hu, -, -, -, -, -, -, hm, -⟩ := performIf_spec p b a s
    rw [he, hu] at h
    cases h
    exact ⟨fun _ => hm, fun hi => absurd hc hi⟩
  | unary f a he _ hc => rw [he] at h; exact ⟨fun hi => absurd hi hc, fun _ _ _ => hdone h⟩
  | read f a he _ hc => rw [he] at h; exact ⟨fun hi => absurd hi hc, fun _ _ _ => hdone h⟩
  | iag a hi => subst hi; exact ⟨False.elim, fun _ _ _ => hdone h⟩
  | hww b a hi => subst hi; exact ⟨False.elim, fun _ _ _ => hdone h⟩
  | hwr b a hi => subst hi; exact ⟨False.elim, fun _ _ _ => hdone h⟩
  | hcf a hi => subst hi; exact ⟨False.elim, fun _ _ _ => hdone h⟩
  | byt v hi => subst hi; exact ⟨False.elim, fun _ _ hv => absurd rfl (hv v)⟩
  | implied f he _ hc => rw [he] at h; exact ⟨fun hi => absurd hi hc, fun _ _ _ => hdone h⟩
  | reserved he hr hc => exact ⟨fun hi => absurd hi hc, fun _ hd => absurd hr hd⟩

/-- A location that is EX is the operand EX. -/
theorem resolveWith_loc_ex {stack : State → Loc × State} (hs : ∀ s, (stack s).1 ≠ .ex) {o : Operand} {s : State}
    (h : (resolveWith stack o s).1 = .ex) : o = .ex := by
  cases o with
  | ex => rfl
  | stack => exact absurd h (hs s)
  | _ => exact absurd h (by simp [resolveWith])

theorem resolveA_loc_ex {o : Operand} {s : State} (h : (resolveA o s).1 = .ex) : o = .ex :=
  resolveWith_loc_ex (fun _ => by simp [resolvePop]) h

theorem resolveB_loc_ex {o : Operand} {s : State} (h : (resolveB o s).1 = .ex) : o = .ex :=
  resolveWith_loc_ex (fun _ => by simp [resolvePush]) h

/-- Writing a destination changes EX only when it is EX. -/
theorem Wrote.loc_of_ex {s h t : State} {l : Loc} {v ex : Word} {m : ByteMask} (w : Wrote s h t l v ex m)
    (hne : t.ex ≠ ex) : l = .ex := by
  obtain ⟨-, -, -, hex, -⟩ := w
  by_contra hl
  exact hne (by rw [hex, if_neg hl])

/-- EX is written by the instructions with extra output, through a destination, and by HCF (R25). -/
theorem exec_ex {i : Instr} {s t : State} (h : exec i s = .next t) (hne : t.ex ≠ s.ex) :
    HasExtraOutput i ∨ DestinationIsEx i ∨ ∃ a, i = .hcf a := by
  cases exec_frame i with
  | alu f b a he hx =>
    rcases hx with hx | ⟨hnone, hx⟩
    · exact .inl hx
    · obtain ⟨u, hu, -, hw⟩ := performAlu_spec f b a s
      rw [he, hu] at h
      cases h
      rw [hnone] at hw
      exact .inr (.inl (hx (resolveB_loc_ex (hw.loc_of_ex hne))))
  | move f b a he hf hx =>
    obtain ⟨u, hu, hw⟩ := performMove_spec f b a s
    obtain ⟨g, hg⟩ := hf u
    rw [he, hu, hg] at h
    cases h
    exact .inr (.inl (hx (resolveB_loc_ex (hw.loc_of_ex hne))))
  | test p b a he =>
    obtain ⟨u, hu, -, -, -, hex, -⟩ := performIf_spec p b a s
    rw [he, hu] at h
    cases h
    exact absurd hex hne
  | unary f a he hx =>
    obtain ⟨u, hu, -, hw⟩ := performUnary_spec f a s
    rw [he, hu] at h
    cases h
    exact .inr (.inl (hx (resolveA_loc_ex (hw.loc_of_ex hne))))
  | read f a he hf =>
    obtain ⟨u, -, heff, hex⟩ := hf (handleA a s).value (handleA a s).state
    rw [he] at h
    cases h
    exact absurd ((heff.ex_mem.1.trans hex).trans (handleA_moved a s).fields.2.1) hne
  | iag a hi =>
    subst hi
    cases h
    have hw := wrote_writeLoc_same_ex (resolveA_moved a s) (resolveA a s).1 (resolveA a s).2.ia s.mask
    exact .inr (.inl (resolveA_loc_ex (hw.loc_of_ex hne) ▸ trivial))
  | hww b a hi => subst hi; cases h; exact absurd ((handleA_moved a s).trans (handleB_moved b _)).fields.2.1 hne
  | hwr b a hi =>
    subst hi
    obtain ⟨u, hu, -, hw⟩ := exec_hwr_spec b a s
    rw [hu] at h
    cases h
    exact .inr (.inl (resolveA_loc_ex (hw.loc_of_ex hne) ▸ by cases b <;> trivial))
  | hcf a hi => exact .inr (.inr ⟨a, hi⟩)
  | byt v hi => subst hi; cases h; exact absurd rfl hne
  | implied f he hf => rw [he] at h; cases h; exact absurd (hf s).ex_mem.1 hne
  | reserved he => rw [he] at h; cases h; exact absurd rfl hne

end Sys2Proof.Machine
end

section
/-! PROOFS. The obligations of 10_state.md and 70_reset_and_hazards.md about the whole machine: reset, the invariant, and who
writes the control state. -/

open Sys2Proof Sys2Proof.Machine Sys2Proof.Claims

namespace Sys2Proof.Machine

/-! ## The invariant, part by part of a step -/

/-- A state that is not asleep meets the invariant by its memory and its queue. -/
theorem inv_of_not_sleeping {s : State} (hm : s.mem.wf = true) (hq : s.queue.length ≤ 256) (hr : s.run ≠ .sleeping) :
    s.Inv := ⟨hm, hq, fun h => absurd h hr⟩

/-- A delivery keeps the invariant: Enqueue refuses what would overfill the queue (R303, R304). -/
theorem deliverArrivals_inv {s : State} (h : s.Inv) : (deliverArrivals s).Inv := by
  obtain ⟨hm, hq, hs⟩ := h
  obtain ⟨q, r, l, n, he, hr, hl⟩ := deliverArrivals_eq s
  rw [he]
  refine ⟨hm, hl hq, fun hrun => hs ?_⟩
  rcases hr with rfl | rfl
  · exact hrun
  · exact absurd hrun (by simp)

/-- A boundary keeps the invariant: what it takes off the queue it either drops or wakes the CPU with (R306, R307). -/
theorem boundary_inv {s : State} (h : s.Inv) : (boundary s).Inv := by
  obtain ⟨hm, hq, hs⟩ := id h
  rcases boundary_cases s with he | ⟨msg, rest, hqueue, -, hcase⟩
  · rwa [he]
  · have hrest : rest.length ≤ 256 := by rw [hqueue, List.length_cons] at hq; omega
    rcases hcase with ⟨-, he⟩ | ⟨-, he⟩
    · rw [he]; exact ⟨hm, hrest, hs⟩
    · rw [he, enterInterrupt_eq]
      exact inv_of_not_sleeping (memAfterAll_wf _ _ hm) hrest (by simp)

/-- Skipping an instruction keeps the invariant: the CPU is awake and only reads (R203). -/
theorem skipInstr_inv {s : State} (h : s.Inv) (hr : s.run ≠ .sleeping) (pc0 w : Word) : (skipInstr pc0 w s).Inv := by
  obtain ⟨hm, hq, -⟩ := h
  rcases skipInstr_cases pc0 w s with ⟨-, he⟩ | ⟨-, he⟩ <;> rw [he] <;> exact inv_of_not_sleeping hm hq hr

/-- An effect on the control state keeps the queue's bound. -/
theorem ControlEffect.queue_length {i : Instr} {u t : State} (h : ControlEffect i u t) (hq : u.queue.length ≤ 256) :
    t.queue.length ≤ 256 := by
  cases h with
  | enqueue msg hi =>
    rcases enqueue_cases msg u with ⟨hlt, he⟩ | ⟨-, he⟩ <;> rw [he]
    · rw [State.setQueue_queue, List.length_append]; exact hlt
    · exact hq
  | _ => exact hq

/-- Enqueue leaves `run` alone or sets the machine on fire, and that on a full queue only. -/
theorem run_enqueue (msg : Word) (s : State) :
    (enqueue msg s).run = s.run ∨ (256 ≤ s.queue.length ∧ (enqueue msg s).run = .onFire) := by
  rcases enqueue_cases msg s with ⟨-, he⟩ | ⟨hle, he⟩ <;> rw [he]
  · exact .inl rfl
  · exact .inr ⟨hle, rfl⟩

/-- The only instruction that puts a running CPU to sleep is SLP, and it does nothing else to the control state (R273). -/
theorem ControlEffect.sleeping {i : Instr} {u t : State} (h : ControlEffect i u t) (hu : u.run = .running)
    (ht : t.run = .sleeping) : (∃ v, i = .slp v) ∧ t.skipping = u.skipping := by
  have hne : u.run ≠ .sleeping := by simp [hu]
  cases h with
  | sleep hi => exact ⟨hi, rfl⟩
  | enqueue msg hi => rcases run_enqueue msg u with he | ⟨-, he⟩ <;> simp [he, hu] at ht
  | halt => cases ht
  | burn => cases ht
  | reserved => cases ht
  | _ => exact absurd ht hne

/-- Performing an instruction keeps the invariant; a CPU that SLP has put to sleep was not skipping, or SLP would not have
been performed, and its mask is used up. -/
theorem exec_inv {i : Instr} {s t : State} (h : exec i s = .next t) (hi : s.Inv) (hr : s.run = .running)
    (hs : s.skipping = false) : t.Inv := by
  obtain ⟨hm, hq, -⟩ := hi
  obtain ⟨u, hu, he⟩ := exec_effect h
  obtain ⟨⟨-, usk, -, uq, -, ur, -⟩, -⟩ := id hu
  refine ⟨?_, he.queue_length (uq ▸ hq), fun ht => ?_⟩
  · rw [he.ex_mem.2]; exact hu.mem_wf hm
  · obtain ⟨⟨v, rfl⟩, hsk⟩ := he.sleeping (ur.trans hr) ht
    refine ⟨(exec_mask h).2 id (fun hres => by cases hres) (fun w hw => by cases hw), ?_⟩
    rw [hsk, usk, hs]

theorem stepInstr_inv {s t : State} (hi : s.Inv) (hr : s.run = .running ∨ s.run = .sleeping)
    (h : stepInstr s = .next t) : t.Inv := by
  rw [stepInstr] at h
  split at h
  · cases h; exact hi
  next hawake =>
    have hrun : (fetch16 s).2.run = .running := by rw [fetch16_state]; exact hr.resolve_right hawake
    have hfetch : (fetch16 s).2.Inv := by
      obtain ⟨hm, hq, -⟩ := hi
      exact inv_of_not_sleeping (by rw [fetch16_state]; exact hm) (by rw [fetch16_state]; exact hq) (by simp [hrun])
    dsimp only at h
    split at h
    · cases h; exact skipInstr_inv hfetch (by simp [hrun]) _ _
    next hskip => exact exec_inv h hfetch hrun (Bool.not_eq_true _ ▸ hskip)

/-- A boundary leaves a CPU that runs or sleeps in one of these two states. -/
theorem run_boundary {s : State} (h : s.run = .running ∨ s.run = .sleeping) :
    (boundary s).run = .running ∨ (boundary s).run = .sleeping := by
  rcases boundary_cases s with he | ⟨_, _, _, _, ⟨_, he⟩ | ⟨_, he⟩⟩
  · rwa [he]
  · rw [he]; exact h
  · rw [he, enterInterrupt_eq]; exact .inl rfl

/-- A machine that steps runs or sleeps (R354). -/
theorem live_of_step_next {s t : State} (h : step s = .next t) : s.run = .running ∨ s.run = .sleeping := by
  cases hr : s.run with
  | running => exact .inl rfl
  | sleeping => exact .inr rfl
  | halted | onFire | faulted reason => simp [step, hr] at h

theorem step_inv {s t : State} (hi : s.Inv) (h : step s = .next t) : t.Inv := by
  have hd := deliverArrivals_inv hi
  have hlive := live_of_step_next h
  rw [step_live hlive] at h
  split at h
  · cases h; exact hd
  next hf => exact stepInstr_inv (boundary_inv hd) (run_boundary (run_of_deliverArrivals hf ▸ hlive)) h

/-! ## Who writes the control state -/

/-- How an effect on the control state of a running CPU leaves `run` (R35). -/
theorem ControlEffect.run {i : Instr} {u t : State} (h : ControlEffect i u t) (hu : u.run = .running) :
    t.run = .running ∨ (t.run = .sleeping ∧ ∃ v, i = .slp v) ∨
    (t.run = .halted ∧ u.ia = 0#16 ∧ ∃ v, i = .hlt v) ∨
    (t.run = .onFire ∧ ((∃ a, i = .hcf a) ∨
      (256 ≤ u.queue.length ∧ ((∃ a, i = .int a) ∨ (u.ia ≠ 0#16 ∧ ∃ v, i = .hlt v))))) ∨
    (t.run = .faulted (.reservedOpcode (encode i)) ∧ IsReserved i) := by
  cases h with
  | enqueue msg hi =>
    rcases run_enqueue msg u with he | ⟨hle, he⟩
    · exact .inl (he.trans hu)
    · exact .inr (.inr (.inr (.inl ⟨he, .inr ⟨hle, hi⟩⟩)))
  | sleep hi => exact .inr (.inl ⟨rfl, hi⟩)
  | halt hia hi => exact .inr (.inr (.inl ⟨rfl, hia, hi⟩))
  | burn hi => exact .inr (.inr (.inr (.inl ⟨rfl, .inl hi⟩)))
  | reserved hi => exact .inr (.inr (.inr (.inr ⟨rfl, hi⟩)))
  | _ => exact .inl hu

/-- Which instruction an effect on each part of the control state names (R27, R28, R31, R32, R34). -/
theorem ControlEffect.writers {i : Instr} {u t : State} (h : ControlEffect i u t) :
    (t.ia ≠ u.ia → ∃ a, i = .ias a) ∧ (t.emu ≠ u.emu → ∃ a, i = .mmw a) ∧
    (t.queueing ≠ u.queueing → ∃ a, i = .iaq a ∨ i = .rfi a) ∧
    (t.queue ≠ u.queue → (∃ a, i = .int a) ∨ ∃ v, i = .hlt v) ∧
    (t.skipping ≠ u.skipping → IsConditional i ∨ ∃ v, i = .skp v) ∧
    t.physMap = u.physMap ∧ t.arrivals = u.arrivals ∧ t.moment = u.moment := by
  cases h with
  | enqueue msg hi =>
    obtain ⟨q, r, he⟩ := enqueue_eq msg u
    rw [he]
    exact ⟨by simp, by simp, by simp, fun _ => hi.imp id And.right, by simp, rfl, rfl, rfl⟩
  | skip hi => exact ⟨by simp, by simp, by simp, by simp, fun _ => hi, rfl, rfl, rfl⟩
  | ia v hi => simp [hi]
  | queueing q hi => exact ⟨by simp, by simp, fun _ => hi, by simp, by simp, rfl, rfl, rfl⟩
  | emu e hi => simp [hi]
  | _ => simp

end Sys2Proof.Machine

namespace Sys2Proof.Proofs

/-! ## The obligations -/

/-- Settles O6: `resetWith` puts its parameters where they belong and the stated values elsewhere, and the default EMU is the
sequential one at each of the 16 blocks. -/
theorem resetLeavesTheStatedValues : Obligations.ResetLeavesTheStatedValues := by
  refine ⟨fun g ex emu pm m arrivals => ⟨rfl, rfl, rfl, rfl, rfl, rfl, rfl, rfl, rfl, rfl, rfl, rfl, rfl, rfl, rfl⟩,
    ⟨_, _, _, _, rfl⟩, ?_⟩
  decide

/-- Settles O7: memory and queue are empty and the CPU runs. -/
theorem resetMeetsTheInvariant : Obligations.ResetMeetsTheInvariant :=
  inv_of_not_sleeping rfl (Nat.zero_le _) (fun h => by cases h)

/-- Settles O8: delivery, boundary, and the skipped or performed instruction each keep the invariant. -/
theorem stepKeepsTheInvariant : Obligations.StepKeepsTheInvariant := fun _ _ hi h => step_inv hi h

/-- Settles O53: the state before the control effect runs as the first state does, with its queue and its IA. -/
theorem runStateChangesOnlyByNamedEvents : Obligations.RunStateChangesOnlyByNamedEvents := by
  intro i s t hr h
  obtain ⟨u, ⟨⟨hia, -, -, hq, -, hrun, -⟩, -⟩, he⟩ := exec_effect h
  rw [← hia, ← hq]
  exact he.run (hrun.trans hr)

/-- Settles O54: a confined change keeps the control state, so only the effect can have written it. -/
theorem controlStateHasOnlyItsWriters : Obligations.ControlStateHasOnlyItsWriters := by
  intro i s t h
  obtain ⟨u, ⟨⟨hia, hsk, hqg, hq, hemu, -, hpm, har, hmo⟩, -⟩, he⟩ := exec_effect h
  rw [← hia, ← hsk, ← hqg, ← hq, ← hemu, ← hpm, ← har, ← hmo]
  exact he.writers

/-- Settles O55: a frame writes EX by its function's extra value or through its destination, or it is HCF's. -/
theorem exHasOnlyItsWriters : Obligations.ExHasOnlyItsWriters := fun _ _ _ h hne => exec_ex h hne

/-- Settles O56: every frame but those of the conditionals and BYT ends by using the mask up. -/
theorem maskLivesUntilANonConditional : Obligations.MaskLivesUntilANonConditional := fun _ _ _ h => exec_mask h

end Sys2Proof.Proofs
end

section
/-! PROOFS. The obligations of 20_memory.md and 40_operands.md: translation, word accesses, the canonical form, and the tables of
the operands. -/

open Sys2Proof Sys2Proof.Machine Sys2Proof.Claims

namespace Sys2Proof.Machine

/-! ## Translation (R62) -/

theorem blockOf_eq (va : Word) : blockOf va = BitVec.ofNat 4 (va.toNat / 4096) := by
  apply BitVec.eq_of_toNat_eq
  simp [blockOf, Nat.shiftRight_eq_div_pow]

/-! ## Words in RAM -/

/-- A word stored to RAM lies at its address with the low octet first (R52, R56). -/
theorem octetAt_writeWord_ram {s : State} {va : Word} (h0 : RamAt s va) (h1 : RamAt s (va + 1#16)) (v : Word) :
    octetAt (writeWord va v s) va = lo8 v ∧ octetAt (writeWord va v s) (va + 1#16) = hi8 v := by
  have hemu : (writeWord va v s).emu = s.emu := by rw [writeWord_eq]; rfl
  obtain ⟨hstored, -⟩ := writeWord_stored va v s
  rw [octetAt, octetAt, hemu]
  exact ⟨hstored (va, lo8 v) (by simp [wordStores]) h0, hstored (va + 1#16, hi8 v) (by simp [wordStores]) h1⟩

/-- A word write does not change what answers an address. -/
theorem ramAt_writeWord (va w v : Word) (s : State) : RamAt (writeWord va v s) w ↔ RamAt s w := by
  rw [writeWord_eq]; rfl

/-- A word of RAM or ROM is its two octets (R54). -/
theorem readWord_of_plainAt {s : State} {va : Word} (h0 : PlainAt s va) (h1 : PlainAt s (va + 1#16)) :
    readWord va s = (joinOctets (octetAt s (va + 1#16)) (octetAt s va), s) := readWord_plain h0 h1

/-- A word stored to RAM reads back, and the read changes nothing (R54, R56). -/
theorem readWord_writeWord_ram {s : State} {va : Word} (h0 : RamAt s va) (h1 : RamAt s (va + 1#16)) (v : Word) :
    readWord va (writeWord va v s) = (v, writeWord va v s) := by
  obtain ⟨hlo, hhi⟩ := octetAt_writeWord_ram h0 h1 v
  rw [readWord_of_plainAt (.inl ((ramAt_writeWord ..).2 h0)) (.inl ((ramAt_writeWord ..).2 h1)), hlo, hhi,
    joinOctets_hi8_lo8]

/-! ## The canonical form decides the list (log 1) -/

/-- Below every listed address memory reads as an unlisted octet. -/
theorem Memory.read_of_lt {m : Memory} {a : Nat} (h : ∀ c ∈ m, a < c.1) : m.read a = unlistedOctet := by
  induction m with
  | nil => rfl
  | cons c rest ih =>
    have hc : a < c.1 := h c (by simp)
    rw [Memory.read, if_neg (Nat.ne_of_lt hc)]
    exact ih fun d hd => h d (by simp [hd])

theorem Memory.read_cons_self (c : Host.Cell) (m : Memory) : Memory.read (c :: m) c.1 = c.2 := if_pos rfl

/-- A canonical list that reads as unlisted everywhere is empty: its first entry would read as listed. -/
theorem Memory.eq_nil_of_read {m : Memory} (hwf : m.wf = true) (h : ∀ a, m.read a = unlistedOctet) : m = [] := by
  cases m with
  | nil => rfl
  | cons c rest =>
    obtain ⟨-, hv, -⟩ := (Memory.wf_cons c rest).1 hwf
    exact absurd ((Memory.read_cons_self c rest).symm.trans (h c.1)) hv

/-- Of two canonical lists that read alike neither begins at a smaller address: the other reads as unlisted there. -/
theorem Memory.head_le_of_read {c d : Host.Cell} {m n : Memory} (hm : Memory.wf (c :: m) = true)
    (hn : Memory.wf (d :: n) = true) (h : ∀ a, Memory.read (c :: m) a = Memory.read (d :: n) a) : d.1 ≤ c.1 := by
  by_contra hlt
  obtain ⟨-, hv, -⟩ := (Memory.wf_cons c m).1 hm
  obtain ⟨-, -, hrise, -⟩ := (Memory.wf_cons d n).1 hn
  have hbelow : Memory.read (d :: n) c.1 = unlistedOctet := by
    refine Memory.read_of_lt fun e he => ?_
    rcases List.mem_cons.1 he with rfl | he
    · omega
    · have := hrise e he; omega
  exact hv (by rw [← Memory.read_cons_self c m, h, hbelow])

/-- With the same first entry, the rests read alike: each reads as unlisted at the first address. -/
theorem Memory.read_tail {c : Host.Cell} {m n : Memory} (hm : ∀ e ∈ m, c.1 < e.1) (hn : ∀ e ∈ n, c.1 < e.1)
    (h : ∀ a, Memory.read (c :: m) a = Memory.read (c :: n) a) (a : Nat) : m.read a = n.read a := by
  by_cases ha : a = c.1
  · rw [ha, Memory.read_of_lt hm, Memory.read_of_lt hn]
  · simpa only [Memory.read, if_neg ha] using h a

theorem Memory.eq_of_read {m n : Memory} (hm : m.wf = true) (hn : n.wf = true) (h : ∀ a, m.read a = n.read a) :
    m = n := by
  induction m generalizing n with
  | nil => exact (Memory.eq_nil_of_read hn fun a => (h a).symm).symm
  | cons c m ih =>
    cases n with
    | nil => exact Memory.eq_nil_of_read hm h
    | cons d n =>
      have hfirst : c.1 = d.1 :=
        Nat.le_antisymm (Memory.head_le_of_read hn hm fun a => (h a).symm) (Memory.head_le_of_read hm hn h)
      have hsecond : c.2 = d.2 := by
        rw [← Memory.read_cons_self c m, h, hfirst, Memory.read_cons_self]
      obtain rfl : c = d := Prod.ext hfirst hsecond
      obtain ⟨-, -, hmrise, hm'⟩ := (Memory.wf_cons c m).1 hm
      obtain ⟨-, -, hnrise, hn'⟩ := (Memory.wf_cons c n).1 hn
      rw [ih hm' hn' (Memory.read_tail hmrise hnrise h)]

/-! ## Fetching (R57) -/

theorem fetch16_eq (s : State) : fetch16 s = ((readWord s.pc s).1, (readWord s.pc s).2.setPc (s.pc + 2#16)) := by
  simp only [fetch16]
  rw [readWord_state s.pc s]
  rfl

theorem fetch16_of_plainAt {s : State} (h0 : PlainAt s s.pc) (h1 : PlainAt s (s.pc + 1#16)) :
    fetch16 s = (joinOctets (octetAt s (s.pc + 1#16)) (octetAt s s.pc), s.setPc (s.pc + 2#16)) := by
  rw [fetch16_eq, readWord_of_plainAt h0 h1]

/-- A fetch changes no general register. -/
theorem fetch16_reg (s : State) (r : Reg) : (fetch16 s).2.reg r = s.reg r := by rw [fetch16_state]; rfl

theorem fetch16_sp (s : State) : (fetch16 s).2.sp = s.sp := by rw [fetch16_state]; rfl

/-! ## The codes of the operands (R121) -/

theorem operandOfCode_reg (r : Reg) : operandOfCode (0x00#6 + r.code.setWidth 6) = .reg r := by cases r <;> rfl

theorem operandOfCode_ind (r : Reg) : operandOfCode (0x08#6 + r.code.setWidth 6) = .ind r := by cases r <;> rfl

theorem operandOfCode_indNext (r : Reg) : operandOfCode (0x10#6 + r.code.setWidth 6) = .indNext r := by
  cases r <;> rfl

/-- The codes from 0x20 up are the inline literals, of the value code - 0x21 (R132). -/
theorem operandOfCode_inline (code : BitVec 6) (h : 0x20 ≤ code.toNat) :
    ∃ k, operandOfCode code = .inline k ∧ inlineValue k = BitVec.ofInt 16 ((code.toNat : Int) - 0x21) := by
  revert code; decide

/-- PUSH and POP share the code 0x18 alone (R126, R127). -/
theorem operandOfCode_eq_stack_iff (code : BitVec 6) : operandOfCode code = .stack ↔ code = 0x18#6 := by
  revert code; decide

/-- Only the code of PUSH and POP means another location in b than in a (R122). -/
theorem resolveB_eq_resolveA {o : Operand} (h : o ≠ .stack) (s : State) : resolveB o s = resolveA o s := by
  cases o with
  | stack => exact absurd rfl h
  | _ => rfl

/-! ## The stack (R137, R138) -/

/-- A push is a word write at the new SP. -/
theorem push_eq_writeWord (v : Word) (s : State) :
    push v s = writeWord (s.sp - 2#16) v (s.setSp (s.sp - 2#16)) := rfl

theorem push_sp (v : Word) (s : State) : (push v s).sp = s.sp - 2#16 := by rw [push_eq]; rfl

theorem push_stored (v : Word) (s : State) : Stored s (push v s) (wordStores (s.sp - 2#16) v) :=
  stored_memAfterAll s _ _ (wordStores_pairwise ..) (by rw [push_eq]; rfl)

/-- A pop is the word at SP, and SP moved up from where it was (R138). -/
theorem pop_eq (s : State) : pop s = ((readWord s.sp s).1, (readWord s.sp s).2.setSp (s.sp + 2#16)) := by
  simp only [pop]
  rw [readWord_state s.sp s]
  rfl

theorem pop_push {s : State} (h0 : RamAt s (s.sp - 2#16)) (h1 : RamAt s (s.sp - 1#16)) (v : Word) :
    pop (push v s) = (v, (push v s).setSp s.sp) := by
  have hnext : s.sp - 2#16 + 1#16 = s.sp - 1#16 := by bv_omega
  have hback : s.sp - 2#16 + 2#16 = s.sp := by bv_omega
  have hread : readWord (s.sp - 2#16) (push v s) = (v, push v s) :=
    push_eq_writeWord v s ▸ readWord_writeWord_ram (s := s.setSp (s.sp - 2#16)) h0 (hnext ▸ h1) v
  rw [pop_eq, push_sp, hread, hback]

end Sys2Proof.Machine

namespace Sys2Proof.Proofs

/-! ## The obligations -/

/-- Settles O9: the page and the offset are appended, and the block is the address divided by the block size. -/
theorem translateUsesTheBlocksPage : Obligations.TranslateUsesTheBlocksPage := by
  intro e va
  rw [← blockOf_eq]
  exact translate_toNat e va

/-- Settles O10: the two octets of a word lie on different cells, so each keeps what was stored there. -/
theorem wordReadsBackFromRam : Obligations.WordReadsBackFromRam := by
  intro va v s h0 h1
  obtain ⟨hlo, hhi⟩ := octetAt_writeWord_ram h0 h1 v
  refine ⟨readWord_writeWord_ram h0 h1 v, hlo, hhi, fun pa hne0 hne1 => ?_⟩
  obtain ⟨-, hframe⟩ := writeWord_stored va v s
  refine hframe pa fun c hc _ => ?_
  rcases List.mem_pair.1 hc with rfl | rfl
  · exact hne0.symm
  · exact hne1.symm

/-- Settles O12: one case per kind of cell, and word accesses by definition. -/
theorem memoryAccessesFollowWhatAnswers : Obligations.MemoryAccessesFollowWhatAnswers := by
  intro va v s
  refine ⟨fun h => readOctet_plain h, fun h => readOctet_platform h, rfl, fun _ => rfl, fun h => ?ignored,
    fun h => ?device, fun h => writeOctet_ram h v⟩
  case ignored => rcases h with h | h <;> simp only [writeOctet, h]
  case device => simp only [writeOctet, h]

/-- Settles O13: the lists begin with the same entry, the least address that reads as listed, and so do their rests. -/
theorem canonicalMemoriesThatReadAlikeAreEqual : Obligations.CanonicalMemoriesThatReadAlikeAreEqual :=
  fun _ _ hm hn h => Memory.eq_of_read hm hn h

/-- Settles O14: the read of the word leaves PC, so the fetch counts from the PC before it. -/
theorem fetchReadsTheWordAtPc : Obligations.FetchReadsTheWordAtPc :=
  fun s => ⟨fetch16_eq s, fetch16_of_plainAt⟩

/-- Settles O15: each code is its operand's, and a fetch of the next word leaves the registers and SP it is added to. -/
theorem operandATable : Obligations.OperandATable := by
  intro s
  refine ⟨fun _ => rfl, fun r => ⟨?reg, ?ind, ?indNext⟩, rfl, rfl, ?pick, rfl, rfl, rfl, rfl, rfl, fun code h => ?inline⟩
  case reg => rw [operandOfCode_reg]; rfl
  case ind => rw [operandOfCode_ind]; rfl
  case indNext => rw [operandOfCode_indNext, ← fetch16_reg]; rfl
  case pick => rw [← fetch16_sp]; rfl
  case inline =>
    obtain ⟨k, hk, hv⟩ := operandOfCode_inline code h
    rw [hk, ← hv]
    rfl

/-- Settles O16: the code 0x18 is PUSH, and every other code resolves as in a. -/
theorem operandBTable : Obligations.OperandBTable := by
  refine fun s => ⟨fun _ => rfl, fun code _ => ?_⟩
  split
  next h => rw [(operandOfCode_eq_stack_iff code).2 h]; rfl
  next h => exact resolveB_eq_resolveA (mt (operandOfCode_eq_stack_iff code).1 h) s

/-- Settles O17: the tables are the model's definitions, row by row. -/
theorem readAndWriteTables : Obligations.ReadAndWriteTables := fun _ _ =>
  ⟨fun _ => rfl, ⟨rfl, rfl, rfl⟩, fun _ => rfl, fun _ => rfl, fun _ => ⟨rfl, rfl, rfl⟩, ⟨rfl, rfl, rfl⟩, ⟨rfl, rfl, rfl⟩,
    ⟨rfl, rfl, rfl⟩, fun _ => ⟨rfl, rfl, rfl⟩, fun _ _ => rfl⟩

/-- Settles O18: a push is a word write at the new SP, which reads back. -/
theorem pushThenPopGivesTheWordBack : Obligations.PushThenPopGivesTheWordBack :=
  fun v s h0 h1 => ⟨push_sp v s, push_stored v s, pop_push h0 h1 v⟩

/-- Settles O60: a closed table of 64 rows, and two closed sums. -/
theorem operandCostsAsPrinted : Obligations.OperandCostsAsPrinted := by
  unfold Obligations.OperandCostsAsPrinted
  decide

end Sys2Proof.Proofs
end

section
/-! PROOFS. The obligations of 41_basic_alu.md about EX as an input, signed division and the shifts, and those of 43_io.md. -/

open Sys2Proof Sys2Proof.Machine Sys2Proof.Claims

namespace Sys2Proof.Machine

/-! ## EX in a sum (R170, R171) -/

theorem aluAdx_ex (vb va ex : Word) :
    (aluAdx vb va ex).ex = some (if vb.toNat + va.toNat + ex.toNat ≤ 0xffff then 0#16 else 0x0001#16) := by
  by_cases h : vb.toNat + va.toNat + ex.toNat ≤ 0xffff
  · rw [if_pos h, aluAdx, if_neg (Nat.not_lt.2 h)]
  · rw [if_neg h, aluAdx, if_pos (Nat.not_le.1 h)]

/-- The exact value is negative, in range or too large; over the naturals the last two are told apart once it is not
negative. -/
theorem aluSbx_ex (vb va ex : Word) :
    (aluSbx vb va ex).ex = some (if vb.toNat + ex.toNat < va.toNat then 0xffff#16
      else if vb.toNat + ex.toNat - va.toNat ≤ 0xffff then 0#16 else 0x0001#16) := by
  by_cases hneg : vb.toNat + ex.toNat < va.toNat
  · rw [if_pos hneg, aluSbx, if_pos (by omega)]
  · by_cases hfit : vb.toNat + ex.toNat - va.toNat ≤ 0xffff
    · rw [if_neg hneg, if_pos hfit, aluSbx, if_neg (by omega), if_neg (by omega)]
    · rw [if_neg hneg, if_neg hfit, aluSbx, if_neg (by omega), if_pos (by omega)]

/-! ## Signed division (R157, R159) -/

theorem aluDvi_eq (vb va ex : Word) :
    aluDvi vb va ex = ⟨if va = 0#16 then 0#16 else BitVec.ofInt 16 (vb.toInt.tdiv va.toInt),
      some (if va = 0#16 then 0#16 else BitVec.ofInt 16 ((vb.toInt * 65536).tdiv va.toInt))⟩ := by
  by_cases h : va = 0#16
  · simp only [aluDvi, if_pos h]
  · simp only [aluDvi, if_neg h]; rfl

/-- The remainder of the quotient rounded toward zero is `tmod` (R159). -/
theorem aluMdi_r (vb va ex : Word) :
    (aluMdi vb va ex).r = if va = 0#16 then 0#16 else BitVec.ofInt 16 (vb.toInt.tmod va.toInt) := by
  rw [Int.tmod_def]; rfl

theorem natAbs_tmod_lt (p : Int) {q : Int} (hq : q ≠ 0) : (p.tmod q).natAbs < q.natAbs := by
  rw [Int.natAbs_tmod]
  exact Nat.mod_lt _ (Int.natAbs_pos.2 hq)

/-- A remainder is smaller than a divisor that is a word, so it fits a word itself. -/
theorem toInt_ofInt_tmod (p : Int) {q : Word} (hq : q.toInt ≠ 0) :
    (BitVec.ofInt 16 (p.tmod q.toInt)).toInt = p.tmod q.toInt := by
  have hlt := natAbs_tmod_lt p hq
  have hlow := q.le_toInt
  have hhigh := q.toInt_lt
  exact BitVec.toInt_ofInt_eq_self (by decide) (by omega) (by omega)

/-- The remainder of a truncated division has the sign of the dividend, or is 0. -/
theorem sign_tmod (p q : Int) : p.tmod q = 0 ∨ (p.tmod q).sign = p.sign := by
  rcases Int.lt_trichotomy (p.tmod q) 0 with h | h | h
  · have hp : p < 0 := by
      by_contra hp
      exact absurd (Int.tmod_nonneg q (Int.not_lt.1 hp)) (Int.not_le.2 h)
    exact .inr (by rw [Int.sign_eq_neg_one_of_neg h, Int.sign_eq_neg_one_of_neg hp])
  · exact .inl h
  · have hp : 0 < p := by
      by_contra hp
      have := Int.tmod_nonneg q (a := -p) (by omega)
      rw [Int.neg_tmod] at this
      omega
    exact .inr (by rw [Int.sign_eq_one_of_pos h, Int.sign_eq_one_of_pos hp])

/-! ## Shifts: 32 bit values as numbers cut to 32 bits (R163 to R166) -/

theorem lowWord_ofNat (n : Nat) : (BitVec.ofNat 32 n).extractLsb' 0 16 = BitVec.ofNat 16 n := by
  apply BitVec.eq_of_toNat_eq
  simp only [BitVec.extractLsb'_toNat, BitVec.toNat_ofNat, Nat.shiftRight_zero]
  omega

theorem highWord_ofNat (n : Nat) : (BitVec.ofNat 32 n).extractLsb' 16 16 = BitVec.ofNat 16 (n / 65536) := by
  apply BitVec.eq_of_toNat_eq
  simp only [BitVec.extractLsb'_toNat, BitVec.toNat_ofNat, Nat.shiftRight_eq_div_pow]
  omega

theorem toNat_shiftWide (vb : Word) : (shiftWide vb).toNat = vb.toNat * 65536 := by
  rw [shiftWide, BitVec.toNat_append, Nat.shiftLeft_eq]
  exact Nat.or_zero _

theorem toInt_shiftWide (vb : Word) : (shiftWide vb).toInt = vb.toInt * 65536 := by
  have hlt := vb.isLt
  rw [BitVec.toInt_eq_toNat_cond, BitVec.toInt_eq_toNat_cond, toNat_shiftWide]
  split <;> split <;> omega

theorem shiftWide_ushiftRight (vb : Word) (n : Nat) :
    shiftWide vb >>> n = BitVec.ofNat 32 (vb.toNat * 65536 / 2 ^ n) := by
  rw [← toNat_shiftWide, ← Nat.shiftRight_eq_div_pow, ← BitVec.toNat_ushiftRight, BitVec.ofNat_toNat,
    BitVec.setWidth_eq]

theorem shiftWide_sshiftRight (vb : Word) (n : Nat) :
    (shiftWide vb).sshiftRight n = BitVec.ofInt 32 (vb.toInt * 65536 / 2 ^ n) := by
  rw [← toInt_shiftWide, BitVec.sshiftRight, Int.shiftRight_eq_div_pow]
  norm_cast

theorem setWidth_shiftLeft (vb : Word) (n : Nat) :
    vb.setWidth 32 <<< n = BitVec.ofNat 32 (vb.toNat * 2 ^ n) := by
  apply BitVec.eq_of_toNat_eq
  have hself : vb.toNat % 2 ^ 32 = vb.toNat := Nat.mod_eq_of_lt (by omega)
  rw [BitVec.toNat_shiftLeft, BitVec.toNat_setWidth, hself, Nat.shiftLeft_eq, BitVec.toNat_ofNat]

theorem aluShr_eq (vb va ex : Word) :
    aluShr vb va ex = ⟨BitVec.ofNat 16 (vb.toNat / 2 ^ va.toNat),
      some (BitVec.ofNat 16 (vb.toNat * 65536 / 2 ^ va.toNat))⟩ := by
  have hcut : vb.toNat * 65536 / 2 ^ va.toNat / 65536 = vb.toNat / 2 ^ va.toNat := by
    rw [Nat.div_right_comm, Nat.mul_div_cancel _ (by decide)]
  rw [aluShr, shiftWide_ushiftRight, highWord_ofNat, lowWord_ofNat, hcut]

theorem aluAsr_eq (vb va ex : Word) :
    aluAsr vb va ex = ⟨BitVec.ofInt 16 (vb.toInt / 2 ^ va.toNat),
      some (BitVec.ofInt 16 (vb.toInt * 65536 / 2 ^ va.toNat))⟩ := by
  have hcut : (vb.toInt * 65536 / 2 ^ va.toNat) >>> (16 : Nat) = vb.toInt / 2 ^ va.toNat := by
    rw [Int.shiftRight_eq_div_pow, Int.ediv_ediv_of_nonneg (by positivity)]
    exact Int.mul_ediv_mul_of_pos_left _ _ (b := 65536) (by decide)
  rw [aluAsr, shiftWide_sshiftRight, highWord_ofInt, lowWord_ofInt, hcut]
  rfl

theorem aluShl_eq (vb va ex : Word) :
    aluShl vb va ex = ⟨BitVec.ofNat 16 (vb.toNat * 2 ^ va.toNat),
      some (BitVec.ofNat 16 (vb.toNat * 2 ^ va.toNat / 65536))⟩ := by
  rw [aluShl, setWidth_shiftLeft, highWord_ofNat, lowWord_ofNat]

end Sys2Proof.Machine

namespace Sys2Proof.Proofs

/-! ## The obligations -/

/-- Settles O22: the sums are exact over the integers, so EX says on which side of the word's range they lie. -/
theorem adxAndSbxUseAndWriteEx : Obligations.AdxAndSbxUseAndWriteEx := by
  intro b a s
  refine ⟨⟨basicRow_of_encode (o := 0x1a#5) rfl rfl, ?_⟩, basicRow_of_encode (o := 0x1b#5) rfl rfl, ?_⟩
  · exact completesB_of_performAlu (exec_adx b a s) rfl (by rw [aluAdx_ex]; rfl)
  · exact completesB_of_performAlu (exec_sbx b a s) rfl (by rw [aluSbx_ex]; rfl)

/-- Settles O25: the zero divisor is the only case apart. -/
theorem dviRoundsBothQuotientsTowardZero : Obligations.DviRoundsBothQuotientsTowardZero := by
  intro b a s
  refine ⟨basicRow_of_encode (o := 0x07#5) rfl rfl, ?_⟩
  exact completesB_of_performAlu (exec_dvi b a s) (by rw [aluDvi_eq]) (by rw [aluDvi_eq]; rfl)

/-- Settles O27: the remainder fits a word, so what the integers say of its size and sign holds of the word. -/
theorem mdiRemainderHasTheDividendsSign : Obligations.MdiRemainderHasTheDividendsSign := by
  intro b a s
  refine ⟨basicRow_of_encode (o := 0x09#5) rfl rfl, ?_, fun hva => ?_⟩
  · exact completesB_of_performAlu (exec_mdi b a s) (aluMdi_r _ _ _) rfl
  · have hq : (handleA a s).value.toInt ≠ 0 := fun h => hva (BitVec.eq_of_toInt_eq h)
    rw [if_neg hva, toInt_ofInt_tmod _ hq]
    refine ⟨natAbs_tmod_lt _ hq, (sign_tmod _ _).imp_left fun h => ?_⟩
    rw [h]
    rfl

/-- Settles O29: the 32 bit values of the formulas are the exact ones cut to 32 bits, and their two words those of the exact
values, whatever the amount. -/
theorem shiftsFollowTheIntegerFormulas : Obligations.ShiftsFollowTheIntegerFormulas := by
  intro b a s
  refine ⟨⟨basicRow_of_encode (o := 0x0d#5) rfl rfl, ?shr⟩, ⟨basicRow_of_encode (o := 0x0e#5) rfl rfl, ?asr⟩,
    basicRow_of_encode (o := 0x0f#5) rfl rfl, ?shl⟩
  case shr => exact completesB_of_performAlu (exec_shr b a s) (by rw [aluShr_eq]) (by rw [aluShr_eq]; rfl)
  case asr => exact completesB_of_performAlu (exec_asr b a s) (by rw [aluAsr_eq]) (by rw [aluAsr_eq]; rfl)
  case shl => exact completesB_of_performAlu (exec_shl b a s) (by rw [aluShl_eq]) (by rw [aluShl_eq]; rfl)

/-- Settles O32: the transfer is one event of the trace, and the end of the instruction uses the mask up. -/
theorem hwwSendsTheWholeWord : Obligations.HwwSendsTheWholeWord := by
  intro b a s
  refine ⟨basicRow_of_encode (o := 0x1c#5) rfl rfl, _, exec_hww b a s, ?_⟩
  exact onlyHandled_finish (((handleA_moved a s).trans (handleB_moved b _)).setBus _)

/-- Settles O33: the answer goes to a's location, which was resolved before b was handled. -/
theorem hwrStoresTheAnswer : Obligations.HwrStoresTheAnswer := fun b a s =>
  ⟨basicRow_of_encode (o := 0x1d#5) rfl rfl, exec_hwr_spec b a s⟩

end Sys2Proof.Proofs
end

section
/-! PROOFS. The obligations of 44_special.md and 45_implied.md not settled above, and the reserved encodings of 30_encoding.md. -/

open Sys2Proof Sys2Proof.Machine Sys2Proof.Claims

namespace Sys2Proof

/-! ## The first word of an IMPLIED instruction as a number (30_encoding.md R94) -/

theorem toNat_impliedWord (o : BitVec 5) (v : Bool) :
    (impliedWord o v).toNat = (if v then 32768 else 0) + o.toNat * 1024 := by
  revert o v; decide

/-- A table row is settled by the word's opcode field and the cost. -/
theorem impliedRow_of_encode {i : Instr} {o : BitVec 5} {c : Nat} {v : Bool} (hi : encode i = impliedWord o v)
    (hc : opcodeCycles i = some c) : ImpliedRow i o.toNat c v := by
  refine ⟨?_, hc⟩
  rw [hi, ← toNat_impliedWord, BitVec.ofNat_toNat, BitVec.setWidth_eq]

end Sys2Proof

namespace Sys2Proof.Machine

/-! ## Stores and reads by a moved state: neither PC nor SP enters them -/

theorem MovedOnly.memAfterAll {s h : State} (mv : MovedOnly s h) (l : List (Word × Octet)) :
    memAfterAll h l = memAfterAll s l := by
  rw [mv]; rfl

theorem MovedOnly.deviceWrites {s h : State} (mv : MovedOnly s h) (l : List (Word × Octet)) :
    deviceWrites h l = deviceWrites s l := by
  rw [mv]; rfl

theorem MovedOnly.reg {s h : State} (mv : MovedOnly s h) (r : Reg) : h.reg r = s.reg r := by
  rw [mv]; rfl

/-- A read answers the same, and adds the same to the trace, in every state with the same EMU, physical map, memory and
trace; the rest of the state is kept (R53, R54). -/
theorem readWord_of_agree {s t : State} (va : Word) (he : t.emu = s.emu) (hp : t.physMap = s.physMap)
    (hm : t.mem = s.mem) (hb : t.bus = s.bus) :
    readWord va t = ((readWord va s).1, t.setBus (readWord va s).2.bus) := by
  obtain ⟨hval, hbus⟩ := readWord_congr va he hp hm hb
  exact Prod.ext hval (by rw [readWord_state va t, hbus])

/-! ## Calls (R231, R232) -/

/-- A call completes: what it pushes and where it goes are taken after a is handled. -/
theorem completesCall_of_performRead {i : Instr} {a : Operand} {s : State} {target : Word → Word → Word}
    (hi : exec i s = performRead (fun va t => (push t.pc t).setPc (target t.pc va)) a s) :
    CompletesCall i a s (target (handleA a s).state.pc (handleA a s).value) := by
  have mv := handleA_moved a s
  obtain ⟨-, hex, -⟩ := mv.fields
  refine ⟨((push (handleA a s).state.pc (handleA a s).state).setPc
    (target (handleA a s).state.pc (handleA a s).value)).setMask .none, hi, rfl, rfl, push_sp _ _, fun r => ?reg, ?ex,
    ?stored, ?bus, ?control⟩
  case reg => rw [← mv.reg r, push_eq]; rfl
  case ex => rw [← hex, push_eq]; rfl
  case stored =>
    refine stored_memAfterAll s _ _ (wordStores_pairwise ..) ?_
    rw [← mv.memAfterAll, push_eq]
    rfl
  case bus => rw [← mv.deviceWrites, ← busAfterAll_eq, push_eq]; rfl
  case control => exact (mv.confined.trans (push_confined _ _)).1

/-! ## INT and the queue (R235) -/

theorem actsOnControl_enqueue (msg : Word) : ActsOnControl (enqueue msg) := by
  refine ⟨fun s l pc sp => ?_, fun s => ?_⟩
  · rcases Nat.lt_or_ge s.queue.length 256 with h | h
    · rw [enqueue_of_lt h, enqueue_of_lt (s := ((s.setBus l).setPc pc).setSp sp) h]; rfl
    · rw [enqueue_of_le h, enqueue_of_le (s := ((s.setBus l).setPc pc).setSp sp) h]; rfl
  · obtain ⟨q, r, he⟩ := enqueue_eq msg s
    rw [he]; rfl

/-! ## Return from interrupt (R238, R311) -/

/-- Return from interrupt, whole: A is the word at SP, PC the word above it, read after it; SP ends four up. -/
theorem returnFromInterrupt_eq_reads (s : State) :
    returnFromInterrupt s =
      ((((s.setQueueing false).setReg .a (readWord s.sp s).1).setBus
        (readWord (s.sp + 2#16) (readWord s.sp s).2).2.bus).setSp (s.sp + 4#16)).setPc
        (readWord (s.sp + 2#16) (readWord s.sp s).2).1 := by
  have hfour : s.sp + 2#16 + 2#16 = s.sp + 4#16 := by bv_omega
  have hfirst := readWord_of_agree (s := s) (t := s.setQueueing false) s.sp rfl rfl rfl rfl
  have hstate := readWord_state s.sp s
  generalize readWord s.sp s = first at hfirst hstate ⊢
  have hsecond := readWord_of_agree (s := first.2)
    (t := (((s.setQueueing false).setBus first.2.bus).setSp (s.sp + 2#16)).setReg .a first.1) (s.sp + 2#16)
    (by rw [hstate]; rfl) (by rw [hstate]; rfl) (by rw [hstate]; rfl) rfl
  generalize readWord (s.sp + 2#16) first.2 = second at hsecond ⊢
  have hpop : pop (s.setQueueing false) = (first.1, ((s.setQueueing false).setBus first.2.bus).setSp (s.sp + 2#16)) := by
    rw [pop_eq, State.setQueueing_sp, hfirst]
  rw [returnFromInterrupt, hpop, pop_eq, State.setReg_sp, State.setSp_sp, hsecond, hfour]
  rfl

/-- Beside A and `queueing`, return from interrupt moves PC and SP and extends the trace. -/
theorem returnFromInterrupt_moved {s h : State} (mv : MovedOnly s h) :
    MovedOnly ((s.setReg .a (readWord h.sp h).1).setQueueing false) (returnFromInterrupt h) := by
  rw [returnFromInterrupt_eq_reads]
  generalize (readWord h.sp h).1 = a
  generalize readWord (h.sp + 2#16) (readWord h.sp h).2 = second
  rw [mv]
  rfl

/-- Of the state after handling, the frame of an instruction without a destination reads SP, PC and the trace. -/
theorem OnlyHandled.congr {s h k t : State} {m : ByteMask} {sk : Bool} (w : OnlyHandled s h t m sk) (hsp : k.sp = h.sp)
    (hpc : k.pc = h.pc) (hbus : k.bus = h.bus) : OnlyHandled s k t m sk := by
  obtain ⟨wreg, wsp, wpc, wex, wmem, wbus, wrest⟩ := w
  exact ⟨wreg, hsp ▸ wsp, hpc ▸ wpc, wex, wmem, hbus ▸ wbus, wrest⟩

/-! ## The fields of what MMR writes back (R245) -/

theorem emuBlockField_eq (va : Word) : emuBlockField va = BitVec.ofNat 4 va.toNat := by
  apply BitVec.eq_of_toNat_eq
  rw [toNat_emuBlockField, BitVec.toNat_ofNat]

theorem toNat_mmrValue (e : Vector PageNo 16) (va : Word) :
    (mmrValue e va).toNat = (emuPage e (emuBlockField va)).toNat * 16 + va.toNat % 16 := by
  rw [mmrValue, BitVec.toNat_append, ← Nat.shiftLeft_add_eq_or_of_lt (BitVec.isLt _), toNat_emuBlockField,
    Nat.shiftLeft_eq]

theorem mmrValue_eq (e : Vector PageNo 16) (va : Word) : mmrValue e va =
    BitVec.ofNat 16 ((emuPage e (BitVec.ofNat 4 va.toNat)).toNat * 16 + va.toNat % 16) := by
  rw [← emuBlockField_eq, ← toNat_mmrValue, BitVec.ofNat_toNat, BitVec.setWidth_eq]

theorem emuBlockField_mmrValue (e : Vector PageNo 16) (va : Word) :
    emuBlockField (mmrValue e va) = emuBlockField va := by
  apply BitVec.eq_of_toNat_eq
  rw [toNat_emuBlockField, toNat_mmrValue, toNat_emuBlockField]
  omega

theorem emuPageField_mmrValue (e : Vector PageNo 16) (va : Word) :
    emuPageField (mmrValue e va) = emuPage e (emuBlockField va) := by
  apply BitVec.eq_of_toNat_eq
  rw [toNat_emuPageField, toNat_mmrValue]
  omega

/-- A block mapped back to its page, after any other mapping of it, leaves the EMU as it was. -/
theorem emuMap_restore (e : Vector PageNo 16) (b : BlockNo) (p : PageNo) :
    emuMap (emuMap e b p) b (emuPage e b) = e := by
  rw [emuMap, emuMap, Vector.set_set, emuPage, Vector.set_getElem_self]

/-! ## The reserved encodings (R101) -/

/-- Each of the 48 listed instructions has no cost in the tables. -/
theorem isReserved_of_mem {b a : Operand} {v : Bool} {i : Instr} (h : i ∈ reservedInstrs b a v) : IsReserved i := by
  have hcost : (reservedInstrs b a v).map opcodeCycles = (reservedInstrs b a v).map fun _ => none := rfl
  exact List.map_inj_left.1 hcost i h

/-- Each of the 48 listed instructions is performed by R101, with its own first word. -/
theorem exec_of_mem_reservedInstrs {b a : Operand} {v : Bool} {i : Instr} (h : i ∈ reservedInstrs b a v) (s : State) :
    exec i s = performReserved (encode i) s := by
  have hexec : (reservedInstrs b a v).map (fun i => exec i s) =
      (reservedInstrs b a v).map fun i => performReserved (encode i) s := rfl
  exact List.map_inj_left.1 hexec i h

end Sys2Proof.Machine

namespace Sys2Proof.Proofs

/-! ## The obligations -/

/-- Settles O34: JSR and BSR share the call, and differ in the target alone. -/
theorem callsPushTheReturnAddress : Obligations.CallsPushTheReturnAddress := fun a s =>
  ⟨⟨specialRow_of_encode (o := 0x01#5) rfl rfl,
      completesCall_of_performRead (target := fun _ va => va) (exec_jsr a s)⟩,
    specialRow_of_encode (o := 0x02#5) rfl rfl,
      completesCall_of_performRead (target := fun pc va => pc + va) (exec_bsr a s)⟩

/-- Settles O36: whatever the free values are, `run` is set last, and no step leaves it. -/
theorem hcfCatchesFire : Obligations.HcfCatchesFire := by
  intro a s
  obtain ⟨u, he, -⟩ := exec_hcf a s
  exact ⟨specialRow_of_encode (o := 0x07#5) rfl rfl, _, he, rfl, rfl⟩

/-- Settles O37: Enqueue acts on the control state alone, and handling a leaves the queue as it was. -/
theorem intEnqueuesItsMessage : Obligations.IntEnqueuesItsMessage := by
  intro a s
  refine ⟨specialRow_of_encode (o := 0x08#5) rfl rfl, fun hroom => ?_, fun hfull => ?_⟩
  · rw [← enqueue_of_lt hroom]
    exact completesControl_of_performRead (exec_int a s) (actsOnControl_enqueue _)
  · obtain ⟨-, -, -, -, -, -, hq, -⟩ := (handleA_moved a s).fields
    have hrun : (enqueue (handleA a s).value (handleA a s).state).run = .onFire := by
      rw [enqueue_of_le (hq ▸ hfull)]; rfl
    exact ⟨_, exec_int a s, hrun⟩

/-- Settles O39: the two words are read after a is handled, the first of them before the second. -/
theorem rfiPopsAThenPc : Obligations.RfiPopsAThenPc := by
  intro a s h first second
  have hdone := onlyHandled_finish (returnFromInterrupt_moved (handleA_moved a s))
  refine ⟨specialRow_of_encode (o := 0x0b#5) rfl rfl, _, exec_rfi a s, hdone.congr ?_ ?_ ?_⟩
  all_goals rw [returnFromInterrupt_eq_reads]; rfl

/-- Settles O42: the value's two fields are the page and the block MMW takes, and mapping a block twice is mapping it to the
later page. -/
theorem mmrWritesPageAndBlock : Obligations.MmrWritesPageAndBlock := by
  intro a s
  obtain ⟨-, -, -, -, -, -, -, hemu, -⟩ := (handleA_moved a s).fields
  refine ⟨specialRow_of_encode (o := 0x0f#5) rfl rfl, ?_, fun p => ?_⟩
  · exact completesA_of_performUnary (exec_mmr a s) (by rw [hemu, mmrValue_eq])
  · rw [← mmrValue_eq, emuBlockField_mmrValue, emuPageField_mmrValue, emuMap_restore]

/-- Settles O43: HLT's three ways out are its test and the queue's room. -/
theorem hltAndSlpComplete : Obligations.HltAndSlpComplete := by
  intro v s
  refine ⟨⟨impliedRow_of_encode (o := 0x00#5) rfl rfl, fun hia => ?halts, fun hia hroom => ?queues, fun hia hfull => ?burns⟩,
    impliedRow_of_encode (o := 0x01#5) rfl rfl, _, exec_slp v s, onlyHandled_finish (.refl _)⟩
  case halts =>
    rw [exec_hlt, if_neg (fun h => (interruptsEnabled_iff s).1 h hia)]
    exact ⟨_, rfl, onlyHandled_finish (.refl _)⟩
  case queues =>
    rw [exec_hlt, if_pos ((interruptsEnabled_iff s).2 hia), enqueue_of_lt hroom]
    exact ⟨_, rfl, onlyHandled_finish (.refl _)⟩
  case burns =>
    rw [exec_hlt, if_pos ((interruptsEnabled_iff s).2 hia), enqueue_of_le hfull]
    exact ⟨_, rfl, rfl⟩

/-- Settles O45: BYT writes the mask alone, so clearing it gives back a state that had none. -/
theorem bytSetsOrClearsTheMask : Obligations.BytSetsOrClearsTheMask := by
  intro v s
  refine ⟨impliedRow_of_encode (o := 0x04#5) rfl rfl,
    ⟨_, exec_byt v s, onlyHandled_of_moved (.refl s) _ s.skipping⟩, fun w t hmask ht => ?_⟩
  rw [exec_byt, if_pos hmask] at ht
  cases ht
  have hpending : (if v then ByteMask.keepHigh else .keepLow) ≠ .none := by cases v <;> decide
  have hback : (s.setMask (if v then .keepHigh else .keepLow)).setMask .none = s := by rw [← hmask]; rfl
  rw [exec_byt, State.setMask_mask, if_neg hpending, hback]

/-- Settles O46: row by row, the listed instructions have no cost and R101's meaning. -/
theorem reservedEncodingsRaiseTheModelFault : Obligations.ReservedEncodingsRaiseTheModelFault :=
  fun _ _ _ s _ hi => ⟨isReserved_of_mem hi, exec_of_mem_reservedInstrs hi s⟩

end Sys2Proof.Proofs
end

section
/-! PROOFS. The obligations of 60_exceptions.md and 70_reset_and_hazards.md: hardware messages, the boundary, interrupt entry and
return, and the step. -/

open Sys2Proof Sys2Proof.Machine Sys2Proof.Claims

namespace Sys2Proof.Machine

/-! ## Interrupt entry, field by field (R307) -/

section
variable (msg : Word) (s : State)
@[simp] theorem enterInterrupt_reg (r : Reg) : (enterInterrupt msg s).reg r = if r = .a then msg else s.reg r := by
  simp [enterInterrupt_eq, State.setReg_reg, eq_comm]
@[simp] theorem enterInterrupt_pc : (enterInterrupt msg s).pc = s.ia := by simp [enterInterrupt_eq]
@[simp] theorem enterInterrupt_sp : (enterInterrupt msg s).sp = s.sp - 4#16 := by simp [enterInterrupt_eq]
@[simp] theorem enterInterrupt_ex : (enterInterrupt msg s).ex = s.ex := by simp [enterInterrupt_eq]
@[simp] theorem enterInterrupt_ia : (enterInterrupt msg s).ia = s.ia := by simp [enterInterrupt_eq]
@[simp] theorem enterInterrupt_skipping : (enterInterrupt msg s).skipping = s.skipping := by simp [enterInterrupt_eq]
@[simp] theorem enterInterrupt_queueing : (enterInterrupt msg s).queueing = true := by simp [enterInterrupt_eq]
@[simp] theorem enterInterrupt_mask : (enterInterrupt msg s).mask = s.mask := by simp [enterInterrupt_eq]
@[simp] theorem enterInterrupt_queue : (enterInterrupt msg s).queue = s.queue := by simp [enterInterrupt_eq]
@[simp] theorem enterInterrupt_emu : (enterInterrupt msg s).emu = s.emu := by simp [enterInterrupt_eq]
@[simp] theorem enterInterrupt_run : (enterInterrupt msg s).run = .running := by simp [enterInterrupt_eq]
@[simp] theorem enterInterrupt_mem : (enterInterrupt msg s).mem = memAfterAll s (entryStores s) := by
  simp [enterInterrupt_eq]
@[simp] theorem enterInterrupt_physMap : (enterInterrupt msg s).physMap = s.physMap := by simp [enterInterrupt_eq]
@[simp] theorem enterInterrupt_bus : (enterInterrupt msg s).bus = deviceWrites s (entryStores s) ++ s.bus := by
  simp [enterInterrupt_eq, busAfterAll_eq]
@[simp] theorem enterInterrupt_arrivals : (enterInterrupt msg s).arrivals = s.arrivals := by simp [enterInterrupt_eq]
@[simp] theorem enterInterrupt_moment : (enterInterrupt msg s).moment = s.moment := by simp [enterInterrupt_eq]
end

/-! ## The boundary (R305) -/

/-- The boundary changes nothing exactly when there is no message, or no leave to trigger one (R305, R321): whatever is
triggered has left the queue. -/
theorem boundary_eq_self_iff (s : State) : boundary s = s ↔ s.queue = [] ∨ mayTrigger s = false := by
  constructor
  · intro he
    by_contra hleave
    obtain ⟨hne, hm⟩ := not_or.1 hleave
    obtain ⟨msg, rest, hq⟩ := List.exists_cons_of_ne_nil hne
    have hleft : (boundary s).queue = rest := by
      rw [boundary_of_mayTrigger hq (Bool.not_eq_false _ ▸ hm), trigger]
      split
      · rfl
      · exact enterInterrupt_queue ..
    rw [he, hq] at hleft
    exact List.cons_ne_self msg rest hleft
  · intro hnone
    rcases boundary_cases s with he | ⟨msg, rest, hq, hm, -⟩
    · exact he
    · exact absurd hnone (by simp [hq, hm])

/-- Each of the three reasons of R305 to hold messages back suffices. -/
theorem mayTrigger_eq_false {s : State} (h : s.queueing = true ∨ s.skipping = true ∨ s.mask ≠ .none) :
    mayTrigger s = false := by
  rw [← Bool.not_eq_true, mayTrigger_iff]
  rintro ⟨-, hq, hs, hm⟩
  rcases h with h | h | h
  · rw [hq] at h; cases h
  · rw [hs] at h; cases h
  · exact h hm

/-! ## What interrupt entry stores, and return reads back (R307, R311) -/

/-- A trigger with IA not 0 enters the handler. -/
theorem trigger_of_ia_ne_zero {s : State} (hia : s.ia ≠ 0#16) (msg : Word) : trigger msg s = enterInterrupt msg s :=
  if_neg hia

/-- The four octets below the stack, at SP - 2, SP - 1, SP - 4 and SP - 3, are different physical octets. -/
theorem entryStores_pairwise (s : State) :
    (entryStores s).Pairwise fun c d => storePhys s c ≠ storePhys s d := by
  have hne {va vb : Word} (h : va.toNat % 4096 ≠ vb.toNat % 4096) : translate s.emu va ≠ translate s.emu vb :=
    translate_ne s.emu h
  simp only [entryStores, wordStores, storePhys, List.cons_append, List.nil_append, List.pairwise_cons, List.mem_cons,
    List.not_mem_nil, or_false, forall_eq_or_imp, forall_eq, IsEmpty.forall_iff, implies_true, List.Pairwise.nil, and_true]
  refine ⟨⟨hne ?_, hne ?_, hne ?_⟩, ⟨hne ?_, hne ?_⟩, hne ?_⟩
  all_goals simp only [BitVec.toNat_sub, BitVec.toNat_add, BitVec.toNat_ofNat]; omega

theorem enterInterrupt_stored (msg : Word) (s : State) : Stored s (enterInterrupt msg s) (entryStores s) :=
  stored_memAfterAll s _ _ (entryStores_pairwise s) (enterInterrupt_mem msg s)

/-- The four octets entry stores to are those at SP - 1 to SP - 4. -/
theorem storePhys_of_mem_entryStores {s : State} {c : Word × Octet} (h : c ∈ entryStores s) :
    storePhys s c = translate s.emu (s.sp - 1#16) ∨ storePhys s c = translate s.emu (s.sp - 2#16) ∨
    storePhys s c = translate s.emu (s.sp - 3#16) ∨ storePhys s c = translate s.emu (s.sp - 4#16) := by
  have h2 : s.sp - 2#16 + 1#16 = s.sp - 1#16 := by bv_omega
  have h4 : s.sp - 4#16 + 1#16 = s.sp - 3#16 := by bv_omega
  simp only [entryStores, wordStores, h2, h4, List.cons_append, List.nil_append, List.mem_cons, List.not_mem_nil,
    or_false] at h
  rcases h with rfl | rfl | rfl | rfl <;> simp [storePhys]

/-- Stores that no device answers show nothing to the platform. -/
theorem deviceWrites_eq_nil {s : State} {stores : List (Word × Octet)} (h : ∀ c ∈ stores, storeKind s c = .ram) :
    deviceWrites s stores = [] := by
  have hnone : stores.filter (fun c => storeKind s c == .device) = [] :=
    List.filter_eq_nil_iff.2 fun c hc => by simp [h c hc]
  rw [deviceWrites, hnone]
  rfl

/-- A word that entry has stored to RAM is read back in the handler. -/
theorem readWord_enterInterrupt {s : State} {va v : Word} (msg : Word) (h0 : RamAt s va) (h1 : RamAt s (va + 1#16))
    (hmem : ∀ c ∈ wordStores va v, c ∈ entryStores s) :
    readWord va (enterInterrupt msg s) = (v, enterInterrupt msg s) := by
  obtain ⟨hstored, -⟩ := enterInterrupt_stored msg s
  have hlo := hstored (va, lo8 v) (hmem _ (by simp [wordStores])) h0
  have hhi := hstored (va + 1#16, hi8 v) (hmem _ (by simp [wordStores])) h1
  have hram {w : Word} (h : RamAt s w) : PlainAt (enterInterrupt msg s) w := by
    rw [PlainAt, enterInterrupt_emu, enterInterrupt_physMap]; exact .inl h
  rw [readWord_of_plainAt (hram h0) (hram h1), octetAt, octetAt, enterInterrupt_emu]
  exact Prod.ext ((congrArg₂ joinOctets hhi hlo).trans (joinOctets_hi8_lo8 v)) rfl

/-- On a stack in RAM, return from interrupt in the state that entry leaves is the interrupted state, but for the octets
stored, `queueing` off and a CPU awake (R307, R311). -/
theorem returnFromInterrupt_enterInterrupt {s : State} (msg : Word) (h1 : RamAt s (s.sp - 1#16))
    (h2 : RamAt s (s.sp - 2#16)) (h3 : RamAt s (s.sp - 3#16)) (h4 : RamAt s (s.sp - 4#16)) :
    returnFromInterrupt (enterInterrupt msg s) =
      (((s.setMem (memAfterAll s (entryStores s))).setBus (enterInterrupt msg s).bus).setQueueing false).setRun
        .running := by
  have e1 : s.sp - 2#16 + 1#16 = s.sp - 1#16 := by bv_omega
  have e2 : s.sp - 4#16 + 2#16 = s.sp - 2#16 := by bv_omega
  have e3 : s.sp - 4#16 + 1#16 = s.sp - 3#16 := by bv_omega
  have e4 : s.sp - 4#16 + 4#16 = s.sp := by bv_omega
  have hfirst : readWord (s.sp - 4#16) (enterInterrupt msg s) = (s.reg .a, enterInterrupt msg s) :=
    readWord_enterInterrupt msg h4 (e3 ▸ h3) fun c hc => List.mem_append_right _ hc
  have hsecond : readWord (s.sp - 2#16) (enterInterrupt msg s) = (s.pc, enterInterrupt msg s) :=
    readWord_enterInterrupt msg h2 (e1 ▸ h1) fun c hc => List.mem_append_left _ hc
  rw [returnFromInterrupt_eq_reads, enterInterrupt_sp, hfirst, e2, hsecond, e4, enterInterrupt_eq]
  generalize memAfterAll s (entryStores s) = m
  generalize busAfterAll s s.bus (entryStores s) = l
  rfl

/-! ## Deliveries (R302) -/

/-- A step depends on `run` and on the state after the delivery. -/
theorem step_congr {s t : State} (hr : s.run = t.run) (hd : deliverArrivals s = deliverArrivals t) : step s = step t := by
  rw [step, step, hr, hd]

theorem deliverArrivals_cons {s : State} {now : List Word} {later : List (List Word)} (h : s.arrivals = now :: later) :
    deliverArrivals s = now.foldl (fun t msg => enqueue msg t) (s.setArrivals later) := by
  rw [deliverArrivals, arriving_cons h]

/-- A full queue refuses every further message of the moment, and the machine burns already. -/
theorem foldl_enqueue_of_onFire {s : State} (hq : 256 ≤ s.queue.length) (hr : s.run = .onFire) (msgs : List Word) :
    msgs.foldl (fun t msg => enqueue msg t) s = s := by
  induction msgs with
  | nil => rfl
  | cons msg rest ih =>
    have hburns : enqueue msg s = s := by rw [enqueue_of_le hq, ← hr]; rfl
    rw [List.foldl_cons, hburns, ih]

/-- The messages of a moment the schedule does not fix are delivered as if it fixed them (log 7). -/
theorem deliverArrivals_unfixed {s : State} (h : s.arrivals = []) :
    deliverArrivals s =
      deliverArrivals ((s.setMoment (s.moment + 1)).setArrivals [Config.hwMessages s.bus s.moment]) := by
  rw [deliverArrivals_cons (s := State.setArrivals _ _) rfl, deliverArrivals, arriving_nil h, ← h]
  rfl

/-- A message that finds room is enqueued, and the rest of its moment follows (R303). -/
theorem deliverArrivals_of_room {s : State} {msg : Word} {now : List Word} {later : List (List Word)}
    (h : s.arrivals = (msg :: now) :: later) (hroom : s.queue.length < 256) :
    deliverArrivals s = deliverArrivals ((s.setQueue (s.queue ++ [msg])).setArrivals (now :: later)) := by
  rw [deliverArrivals_cons h, deliverArrivals_cons (s := State.setArrivals _ _) rfl, List.foldl_cons,
    enqueue_of_lt (s := s.setArrivals later) hroom]
  rfl

/-- A message that finds the queue full ends its moment and sets the machine on fire (R304). -/
theorem deliverArrivals_of_full {s : State} {msg : Word} {now : List Word} {later : List (List Word)}
    (h : s.arrivals = (msg :: now) :: later) (hfull : 256 ≤ s.queue.length) :
    deliverArrivals s = (s.setArrivals later).setRun .onFire := by
  rw [deliverArrivals_cons h, List.foldl_cons, enqueue_of_le (s := s.setArrivals later) hfull]
  exact foldl_enqueue_of_onFire (s := (s.setArrivals later).setRun .onFire) hfull rfl now

/-! ## The instruction of a step (R354) -/

/-- Asleep, nothing more happens. -/
theorem stepInstr_sleeping {s : State} (h : s.run = .sleeping) : stepInstr s = .next s := if_pos h

theorem fetch16_skipping (s : State) : (fetch16 s).2.skipping = s.skipping := by rw [fetch16_state]; rfl

theorem fetch16_mask (s : State) : (fetch16 s).2.mask = s.mask := by rw [fetch16_state]; rfl

theorem fetch16_moved (s : State) : MovedOnly s (fetch16 s).2 := by rw [fetch16_state]; rfl

theorem MovedOnly.setPc {s h : State} (mv : MovedOnly s h) (v : Word) : MovedOnly s (h.setPc v) := mv.trans rfl

/-- Awake and not skipping, the instruction at PC is performed. -/
theorem stepInstr_perform {s : State} (hr : s.run = .running) (hs : s.skipping = false) :
    stepInstr s = exec (decode (fetch16 s).1) (fetch16 s).2 := by
  simp only [stepInstr, hr, fetch16_skipping, hs, reduceCtorEq, if_false, Bool.false_eq_true]

/-- Awake and skipping, the instruction at PC is skipped. -/
theorem stepInstr_skip {s : State} (hr : s.run = .running) (hs : s.skipping = true) :
    stepInstr s = .next (skipInstr s.pc (fetch16 s).1 (fetch16 s).2) := by
  simp only [stepInstr, hr, fetch16_skipping, hs, reduceCtorEq, if_false, if_true]

/-- Skipping moves PC; `skipping` and the mask outlast a conditional alone (R203). -/
theorem skipInstr_eq {s : State} (pc0 w : Word) (hs : s.skipping = true) : skipInstr pc0 w s =
    ((s.setPc (pc0 + BitVec.ofNat 16 (2 * wordLength w))).setSkipping (isConditionalWord w)).setMask
      (if isConditionalWord w then s.mask else .none) := by
  rcases skipInstr_cases pc0 w s with ⟨hw, he⟩ | ⟨hw, he⟩
  · rw [he, hw, if_pos rfl, ← hs]; rfl
  · rw [he, hw]; rfl

/-- A step whose delivery leaves the CPU running and skipping moves past the instruction at PC (R203). -/
theorem step_skipping {s : State} (hr : (deliverArrivals s).run = .running) (hs : (deliverArrivals s).skipping = true) :
    ∃ t, step s = .next t ∧
      OnlyHandled (deliverArrivals s) ((fetch16 (deliverArrivals s)).2.setPc
        ((deliverArrivals s).pc + BitVec.ofNat 16 (2 * (decode (fetch16 (deliverArrivals s)).1).length))) t
        (if isConditionalWord (fetch16 (deliverArrivals s)).1 then (deliverArrivals s).mask else .none)
        (isConditionalWord (fetch16 (deliverArrivals s)).1) := by
  have hb : boundary (deliverArrivals s) = deliverArrivals s :=
    (boundary_eq_self_iff _).2 (.inr (mayTrigger_eq_false (.inr (.inl hs))))
  have hstep : step s = stepInstr (deliverArrivals s) := by
    rw [step_after_boundary (by rw [hb]; exact .inl hr), hb]
  rw [hstep, stepInstr_skip hr hs, skipInstr_eq _ _ (by rw [fetch16_skipping, hs]), fetch16_mask, length_decode]
  exact ⟨_, rfl, onlyHandled_of_moved ((fetch16_moved _).setPc _) _ _⟩

/-- A step whose boundary leaves the CPU running, with nothing to skip, performs the well-formed instruction whose first
word it reads. -/
theorem step_perform {i : Instr} {s : State} (hwf : i.wf = true) (hr : (boundary (deliverArrivals s)).run = .running)
    (hs : (boundary (deliverArrivals s)).skipping = false)
    (hw : (fetch16 (boundary (deliverArrivals s))).1 = encode i) :
    step s = exec i (fetch16 (boundary (deliverArrivals s))).2 := by
  rw [step_after_boundary (.inl hr), stepInstr_perform hr hs, hw, decode_encode hwf]

theorem deliverArrivals_pc (s : State) : (deliverArrivals s).pc = s.pc := by
  obtain ⟨q, r, l, n, he, -⟩ := deliverArrivals_eq s
  rw [he]; rfl

/-- A delivery changes nothing that a fetch depends on. -/
theorem fetch16_deliverArrivals (s : State) : (fetch16 (deliverArrivals s)).1 = (fetch16 s).1 := by
  have hread (t : State) : (fetch16 t).1 = (readWord t.pc t).1 := rfl
  obtain ⟨q, r, l, n, he, -⟩ := deliverArrivals_eq s
  rw [hread, hread, deliverArrivals_pc, he]
  exact (readWord_congr (s := (((s.setArrivals l).setMoment n).setQueue q).setRun r) (t := s) s.pc rfl rfl rfl rfl).1

theorem deliverArrivals_skipping (s : State) : (deliverArrivals s).skipping = s.skipping := by
  obtain ⟨q, r, l, n, he, -⟩ := deliverArrivals_eq s
  rw [he]; rfl

end Sys2Proof.Machine

namespace Sys2Proof.Proofs

/-! ## The obligations -/

/-- Settles O51: Enqueue's two branches. -/
theorem enqueueAppendsOrCatchesFire : Obligations.EnqueueAppendsOrCatchesFire :=
  fun msg _ => ⟨fun h => enqueue_of_lt h msg, fun h => enqueue_of_le h msg⟩

/-- Settles O49: three of the reasons are conditions of the trigger, the fourth leaves nothing to trigger. -/
theorem messagesAreHeldBack : Obligations.MessagesAreHeldBack := by
  rintro s (h | h | h | h)
  · exact (boundary_eq_self_iff _).2 (.inr (mayTrigger_eq_false (.inl h)))
  · exact (boundary_eq_self_iff _).2 (.inr (mayTrigger_eq_false (.inr (.inl h))))
  · exact (boundary_eq_self_iff _).2 (.inr (mayTrigger_eq_false (.inr (.inr h))))
  · exact (boundary_eq_self_iff _).2 (.inl h)

/-- Settles O47: the premises are the trigger conditions, and entry is the two pushes and five updates of R307. -/
theorem interruptEntrySavesPcAndA : Obligations.InterruptEntrySavesPcAndA := by
  intro s msg rest hq hrun hqueueing hskipping hmask hia
  have hm : mayTrigger s = true := (mayTrigger_iff s).2 ⟨hrun, hqueueing, hskipping, hmask⟩
  have he : boundary s = enterInterrupt msg (s.setQueue rest) := by
    rw [boundary_of_mayTrigger hq hm, trigger_of_ia_ne_zero (s := s.setQueue rest) hia]
  have hstored : Stored s (boundary s) (entryStores s) := by
    rw [he]; exact enterInterrupt_stored msg (s.setQueue rest)
  have hbus : (boundary s).bus = deviceWrites s (entryStores s) ++ s.bus := by
    rw [he]; exact enterInterrupt_bus msg (s.setQueue rest)
  rw [he] at hstored hbus ⊢
  refine ⟨?_, ?_, ?_, hstored, hbus, ?_, ?_, ?_, fun r hr => ?_, ?_, ?_, ?_, ?_, ?_, ?_, ?_, ?_⟩
  all_goals simp [*]

/-- Settles O50: handling a register or an inline literal changes nothing, so RFI returns from the state entry left, and the
two words it pops are the two that entry pushed. -/
theorem rfiRestoresWhatEntrySaved : Obligations.RfiRestoresWhatEntrySaved := by
  intro s msg a ha h1 h2 h3 h4
  have hhandle : (handleA a (enterInterrupt msg s)).state = enterInterrupt msg s := by
    rcases ha with ⟨r, rfl⟩ | ⟨k, rfl⟩ <;> rfl
  have hexec : exec (.rfi a) (enterInterrupt msg s) = finish (returnFromInterrupt (enterInterrupt msg s)) := by
    rw [exec_rfi, performRead, hhandle]
  have hram : ∀ c ∈ entryStores s, storeKind s c = .ram := fun c hc => by
    rw [storeKind]
    rcases storePhys_of_mem_entryStores hc with hpa | hpa | hpa | hpa <;> rw [hpa]
    · exact h1
    · exact h2
    · exact h3
    · exact h4
  have hbus : (enterInterrupt msg s).bus = s.bus := by
    rw [enterInterrupt_bus, deviceWrites_eq_nil hram, List.nil_append]
  rw [returnFromInterrupt_enterInterrupt msg h1 h2 h3 h4, hbus] at hexec
  have hframe (pa : PhysAddr)
      (hpa : ∀ k : Word, 1 ≤ k.toNat → k.toNat ≤ 4 → pa ≠ translate s.emu (s.sp - k)) :
      (memAfterAll s (entryStores s)).read pa.toNat = s.mem.read pa.toNat := by
    refine memAfterAll_read_of_ne s _ pa fun c hc _ hc' => ?_
    rcases storePhys_of_mem_entryStores hc with he | he | he | he
    · exact hpa 1#16 (by decide) (by decide) (hc'.symm.trans he)
    · exact hpa 2#16 (by decide) (by decide) (hc'.symm.trans he)
    · exact hpa 3#16 (by decide) (by decide) (hc'.symm.trans he)
    · exact hpa 4#16 (by decide) (by decide) (hc'.symm.trans he)
  exact ⟨_, hexec, by simpa using hframe⟩

/-- Settles O52: delivery takes the messages of a moment one by one, and a step reads the schedule through its delivery. -/
theorem hardwareMessagesAreEnqueuedBeforeTheStep : Obligations.HardwareMessagesAreEnqueuedBeforeTheStep := by
  intro s
  refine ⟨fun h => ?unfixed, fun later h => deliverArrivals_cons h,
    fun msg now later h => ⟨fun hroom => ?room, fun hfull => ⟨deliverArrivals_of_full h hfull, fun hlive => ?full⟩⟩⟩
  case unfixed => exact ⟨deliverArrivals_unfixed h, step_congr rfl (deliverArrivals_unfixed h)⟩
  case room => exact ⟨deliverArrivals_of_room h hroom, step_congr rfl (deliverArrivals_of_room h hroom)⟩
  case full => rw [step_live hlive, deliverArrivals_of_full h hfull]; rfl

/-- Settles O31: while skipping no message is triggered, and the instruction at PC is only measured. -/
theorem skippingMovesPcByTheLength : Obligations.SkippingMovesPcByTheLength := fun _ hr hs => step_skipping hr hs

/-- Settles O44: SKP leaves a skipping CPU, whose next step is that of O31; the delivery between leaves PC and what is
fetched there. -/
theorem skpSkipsTheNextInstruction : Obligations.SkpSkipsTheNextInstruction := by
  intro v s
  refine ⟨impliedRow_of_encode (o := 0x10#5) rfl rfl, _, exec_skp v s, onlyHandled_of_moved (.refl s) .none true,
    fun hrun => ?_⟩
  obtain ⟨u, hu, -, -, hpc, -, -, -, -, hskip, -⟩ := step_skipping hrun (deliverArrivals_skipping _)
  refine ⟨u, hu, ?_, ?_⟩
  · rw [hpc, State.setPc_pc, deliverArrivals_pc, fetch16_deliverArrivals]
  · rw [hskip, fetch16_deliverArrivals]
    exact isConditionalWord_iff _

/-- Settles O57: the step fetches the word at PC, and what it decodes to is the instruction it encodes. -/
theorem stepRunsTheDecodedInstruction : Obligations.StepRunsTheDecodedInstruction := by
  intro i s hwf d hr hb hs
  have hperform (hw : (fetch16 d).1 = encode i) : step s = exec i (fetch16 d).2 := by
    have := step_perform (s := s) hwf (by rw [hb]; exact hr) (by rw [hb]; exact hs) (by rw [hb]; exact hw)
    rwa [hb] at this
  refine ⟨hperform, fun h0 h1 hlo hhi => ?_⟩
  have hfetch : fetch16 d = (encode i, d.setPc (d.pc + 2#16)) := by
    rw [fetch16_of_plainAt h0 h1, hlo, hhi, joinOctets_hi8_lo8]
  rw [hperform (by rw [hfetch]), hfetch]

/-- Settles O58: after the boundary the step is that of any running CPU with nothing to skip. -/
theorem stepTriggersThenRunsOneInstruction : Obligations.StepTriggersThenRunsOneInstruction :=
  fun _ _ hwf hr hs hw => step_perform hwf hr hs hw

/-- Settles O59: asleep after the boundary the step ends there, and the boundary of a sleeper with IA = 0 discards the head
message or does nothing. -/
theorem sleepStuttersAndTerminalStatesStop : Obligations.SleepStuttersAndTerminalStatesStop := by
  intro s
  have hstutter (h : (boundary (deliverArrivals s)).run = .sleeping) :
      step s = .next (boundary (deliverArrivals s)) := by
    rw [step_after_boundary (.inr h), stepInstr_sleeping h]
  refine ⟨hstutter, fun later hr har => ⟨fun msg rest hq hqueueing hskipping hmask hia => ?discards, fun hb => ?passes⟩,
    fun h => ?halted, fun h => ?onFire, fun reason h => ?faulted⟩
  case discards =>
    have he : boundary (deliverArrivals s) = (s.setArrivals later).setQueue rest := by
      rw [deliverArrivals_cons har]
      exact triggerWithIaZeroDiscardsTheMessage (s.setArrivals later) msg rest hq (.inr hr) hqueueing hskipping hmask hia
    rw [hstutter (by rw [he]; exact hr), he]
  case passes =>
    have he : boundary (deliverArrivals s) = s.setArrivals later := by
      rw [deliverArrivals_cons har]
      exact (boundary_eq_self_iff (s.setArrivals later)).2 ((boundary_eq_self_iff s).1 hb)
    rw [hstutter (by rw [he]; exact hr), he]
  case halted => simp only [step, h]
  case onFire => simp only [step, h]
  case faulted => simp only [step, h]

end Sys2Proof.Proofs
end
